-- ==== Sys2Proof/Word.lean ====
section
/-! DEFINITION. The words of the AC-24: a byte of a frame or of the configuration block, a field of two
bytes, and a station address of six bits (09_frames.md R165, 11_start_up_and_configuration.md R181). -/

namespace Sys2Proof

/-- One byte of a frame or of the configuration block. -/
abbrev Byte := BitVec 8

/-- A field of two bytes, high byte first on the line and in the block (R165). -/
abbrev Half := BitVec 16

/-- A station address: the low six bits of SOURCE, or the six address straps (R165, R181). -/
abbrev Addr := BitVec 6

end Sys2Proof
end

