-- ==== Sys2Proof/Syntax.lean ====
section
/-! DEFINITION. The commands of the AC-24: one constructor of `Instr` for each row of
spec/opcode_table.json, in the table's order. The table gives no operands; each constructor carries what
the rules say its event brings (log 4). -/

namespace Sys2Proof

/-- One of the node's two drive channels (00_scope.md, Terms: channel). -/
inductive Chan where
  | c0 | c1
  deriving DecidableEq, Repr

/-- The payload of a WEATHER frame (R166, R169). -/
structure WeatherFields where
  sequence : Byte
  rain : Byte
  flags : Byte
  amount : Half
  gust : Half
  mean : Half
  direction : Byte
  cause : Byte
  deriving DecidableEq, Repr

/-- The payload of an ORDER frame but for its action, which the command's name gives (R166, R172). -/
structure OrderFields where
  zoneCode : Half
  zoneMask : Half
  cls : Byte
  parameter : Byte
  deriving DecidableEq, Repr

/-- The payload of a CLAIM frame (R166, R170). -/
structure ClaimFields where
  segment : Byte
  channel : Byte
  cls : Byte
  token : Byte
  estimate : Byte
  capacity : Byte
  renew : Byte
  deriving DecidableEq, Repr

/-- The payload of a RELEASE frame (R166, R170). -/
structure ReleaseFields where
  segment : Byte
  channel : Byte
  token : Byte
  outcome : Byte
  deriving DecidableEq, Repr

/-- The commands, one constructor per row of spec/opcode_table.json. `source` is the source address of
an accepted frame. -/
inductive Instr where
  /-- R181. -/
  | powerOnReset
  /-- R181. -/
  | resetN
  /-- R181, R182: the straps as they stand at the latch, and whether the store can be read. -/
  | resetRelease (address : Addr) (role : BitVec 2) (commissioning : Bool) (readable : Bool)
  /-- R184: the mean of the 50 ms of samples, in comparator codes. -/
  | calibrationEnd (c : Chan) (mean : Byte)
  /-- R185. -/
  | listenInEnd
  /-- R1. -/
  | anemometerEdge
  /-- R1, R4: V3..V0 as sampled at the window end. -/
  | sampleWindowEnd (vane : BitVec 4)
  /-- R8: the direction of the edge. -/
  | rainEdge (rising : Bool)
  /-- R9. -/
  | rainTick
  /-- R13. -/
  | rainRecoveryExpiry
  /-- R14: the level the rain input goes to. -/
  | rainLevelChange (high : Bool)
  /-- R14. -/
  | wetDurationExpiry
  /-- R23. -/
  | weatherFrame (source : Addr) (f : WeatherFields)
  /-- R26: the index of the entry. -/
  | staleTimerExpiry (entry : Fin 8)
  /-- R48. -/
  | releaseHoldExpiry (c : Chan)
  /-- R66. -/
  | orderClose (source : Addr) (f : OrderFields)
  /-- R66. -/
  | orderOpen (source : Addr) (f : OrderFields)
  /-- R66. -/
  | orderStop (source : Addr) (f : OrderFields)
  /-- R66. -/
  | orderShutFor (source : Addr) (f : OrderFields)
  /-- R68. -/
  | orderUnlatch (source : Addr) (f : OrderFields)
  /-- R68. -/
  | orderResetFault (source : Addr) (f : OrderFields)
  /-- R66: the action byte, 0 or above 6. -/
  | orderUnknownAction (source : Addr) (action : Byte) (f : OrderFields)
  /-- R67. -/
  | orderExpiry (c : Chan)
  /-- R70. -/
  | panelOpenPress (c : Chan)
  /-- R70. -/
  | panelClosePress (c : Chan)
  /-- R71. -/
  | ackPress
  /-- R72. -/
  | zoneClosePress
  /-- R73: the position turned to, true for LOCAL. -/
  | keySwitchChange (toLocal : Bool)
  /-- R80. -/
  | encoderPulse (c : Chan)
  /-- R81: the level the closed limit input goes to. -/
  | closedLimitChange (c : Chan) (active : Bool)
  /-- R90: true when the input becomes active; false tells that it has gone inactive (log 5). -/
  | openLimitActive (c : Chan) (active : Bool)
  /-- R112. -/
  | rampMidpoint (c : Chan)
  /-- R89. -/
  | rampEnd (c : Chan)
  /-- R92. -/
  | coastEnd (c : Chan)
  /-- R97. -/
  | dwellEnd (c : Chan)
  /-- R94. -/
  | overrun (c : Chan)
  /-- R102. -/
  | supplyLow
  /-- R101. -/
  | supplyReturn
  /-- R103. -/
  | supplyQualified
  /-- R108. -/
  | markerEdge (c : Chan)
  /-- R112. -/
  | stallTimerExpiry (c : Chan)
  /-- R113: the sensed motor current, in comparator codes. -/
  | overcurrentChange (c : Chan) (sensed : Byte)
  /-- R113. -/
  | overcurrentTimerExpiry (c : Chan)
  /-- R114: true when the input becomes active; false tells that it has gone inactive (log 5). -/
  | safetyEdgeActive (c : Chan) (active : Bool)
  /-- R118. -/
  | retryDelayExpiry (c : Chan)
  /-- R127. -/
  | claimFrame (source : Addr) (f : ClaimFields)
  /-- R128. -/
  | releaseFrame (source : Addr) (f : ReleaseFields)
  /-- R128: the node and channel of the entry. -/
  | runTableExpiry (node : Addr) (c : Chan)
  /-- R135. -/
  | claimWindowEnd (c : Chan)
  /-- R136. -/
  | staggerEnd (c : Chan)
  /-- R136. -/
  | claimRetryExpiry (c : Chan)
  /-- R147. -/
  | lineQuiet
  /-- R148: the number of the slot that begins. -/
  | attemptStart (slot : Nat)
  /-- R149. -/
  | collision
  /-- R149. -/
  | attemptComplete
  /-- R161. -/
  | stuckTimerExpiry
  /-- R158. -/
  | addressConflict
  /-- R159. -/
  | stateFrame (source : Addr) (payload : List Byte)
  /-- R174. -/
  | statusIntervalExpiry
  /-- R187. -/
  | configData (source : Addr) (target : Byte) (offset : Byte) (data : List Byte)
  /-- R188. -/
  | configCommit (source : Addr) (target : Byte) (crc : Half)
  /-- R188: the bytes the store holds when the write ends, as the readback finds them. -/
  | storeWriteEnd (readback : List Byte)
  /-- R156: a byte read off the line, and whether its stop bit read dominant (R146). -/
  | byteReceived (b : Byte) (framingError : Bool)
  /-- R161: true when the line goes dominant. -/
  | lineLevelChange (dominant : Bool)
  deriving DecidableEq, Repr

end Sys2Proof
end

