-- ==== Sys2Proof/Config.lean ====
section
/-! DEFINITION. The free values: what the manual leaves open, or what only the outside world knows. Each
is a constant without a body, so that no proof can rest on what it is. -/

namespace Sys2Proof

/-- Free value (log 8): how many of the 96 bytes a store write had written when a reset cut it short, by
the index of the event (R188: "leaves the store partly written"). -/
opaque Config.bytesWritten : Nat → Nat

/-- Free value (log 9): the bytes taken as read from a store that cannot be read, by the index of the
event and the byte's offset (R182 names no content). -/
opaque Config.unreadableByte : Nat → Nat → Byte

/-- Free value (log 13): the vane inputs V3..V0 at a moment at which the node's own time base ends a
sample window (R4). -/
opaque Config.vaneInputs : Nat → BitVec 4

/-- Free value (log 13): the mean current-sense reading of a channel at a moment at which the node's own
time base ends its calibration (R184). -/
opaque Config.currentReading : Nat → Chan → Byte

end Sys2Proof
end

