-- ==== Sys2Proof/Machine/Names.lean ====
section
/-! DEFINITION. The named values of the manual, and their one-byte codes on the line (09_frames.md R168). -/

namespace Sys2Proof.Machine

open Sys2Proof

/-- Request and claim classes (00_scope.md, Classes). -/
inductive Class where
  | service | user | building | weather | storm
  deriving DecidableEq, Repr

/-- Threat levels (00_scope.md). -/
inductive Level where
  | calm | watch | close | severe
  deriving DecidableEq, Repr

/-- Rain states (R12). -/
inductive Rain where
  | dry | wet | rain
  deriving DecidableEq, Repr

/-- Causes of a WEATHER frame (R15, R16). -/
inductive Cause where
  | periodic | rainChange | gustLevel
  deriving DecidableEq, Repr

/-- Outcomes of a RELEASE (R139). -/
inductive ReleaseOutcome where
  | done | stopped | fault | supply | yielded | withdrawn
  deriving DecidableEq, Repr

/-- The role in effect (R181, R186). -/
inductive Role where
  | drive | sense | both
  deriving DecidableEq, Repr

/-- Picture status (R33, R34). -/
inductive PictureStatus where
  | starting | valid | degraded | partly | lost
  deriving DecidableEq, Repr

/-- The commit outcome (R177). -/
inductive CommitOutcome where
  | none | ok | refused
  deriving DecidableEq, Repr

/-- Run states (R79). -/
inductive RunState where
  | idle | waitSlot | starting | driving | coasting | dwell | backoff | blocked | supplyWait | fault
  deriving DecidableEq, Repr

/-- The fault field (R117, R121). -/
inductive FaultKind where
  | none | stallSilent | stallCurrent | pinch | travel | overrun | cal
  deriving DecidableEq, Repr

/-- End causes of a run (R95). -/
inductive EndCause where
  | done | stopped | yielded | positionLost | supply | fault
  deriving DecidableEq, Repr

/-- Drive directions (R80). -/
inductive Dir where
  | opening | closing
  deriving DecidableEq, Repr

/-- Priority tiers of the source table (R20). -/
inductive Tier where
  | first | second
  deriving DecidableEq, Repr

/-- Where a quantity of the picture came from (R28). -/
inductive SourceTier where
  | first | second | lost
  deriving DecidableEq, Repr

/-- Status of a source entry (R20). -/
inductive EntryStatus where
  | empty | absent | live | stale
  deriving DecidableEq, Repr

/-- Kind of an opening (R37). -/
inductive Kind where
  | skylight | window
  deriving DecidableEq, Repr

/-- Latch mode (R37). -/
inductive LatchMode where
  | follow | keep
  deriving DecidableEq, Repr

/-- Rain input mode (01, Settings). -/
inductive RainMode where
  | event | gated
  deriving DecidableEq, Repr

/-- Sources of the status output (R179). -/
inductive OutputSource where
  | heldClose | notValid | fault | allClosed | line | localRain | low | high
  deriving DecidableEq, Repr

/-- Polarity of the status output (R179). -/
inductive Polarity where
  | activeLow | activeHigh
  deriving DecidableEq, Repr

/-- Origins of request entries (R55). -/
inductive Origin where
  | weather | order | panel | service
  deriving DecidableEq, Repr

/-- Claim states (R130). -/
inductive ClaimState where
  | none | claiming | held | waiting | localRun
  deriving DecidableEq, Repr

/-- Motor supply status (R101). -/
inductive SupplyStatus where
  | low | recovering | good
  deriving DecidableEq, Repr

/-- Receive assembly states (R156). -/
inductive AssemblyState where
  | waitQuiet | ready | assembling | discarding
  deriving DecidableEq, Repr

/-- Commit state (R187). -/
inductive CommitState where
  | idle | writing
  deriving DecidableEq, Repr

/-- Publication state (R17). -/
inductive PubState where
  | idle | queued | sending
  deriving DecidableEq, Repr

/-- How far the start sequence has come (R181, R184, R185). -/
inductive Phase where
  | held | calibrating | listenIn | running
  deriving DecidableEq, Repr

/-- The rank of a class (00_scope.md, Classes), which is also its code (R168). -/
def Class.rank : Class → Nat
  | .service => 0 | .user => 1 | .building => 2 | .weather => 3 | .storm => 4

/-- The class a code names, if it names one (R168). -/
def Class.ofCode (n : Nat) : Option Class :=
  match n with
  | 0 => some .service | 1 => some .user | 2 => some .building | 3 => some .weather | 4 => some .storm
  | _ => none

/-- The place of a level in the rising order CALM, WATCH, CLOSE, SEVERE; also its code (R168). -/
def Level.rank : Level → Nat
  | .calm => 0 | .watch => 1 | .close => 2 | .severe => 3

/-- The higher of two levels. -/
def Level.higher (a b : Level) : Level := if a.rank < b.rank then b else a

/-- CLOSE or SEVERE: the levels under which no opening movement starts (R64, R99). -/
def Level.shut (l : Level) : Bool := 2 ≤ l.rank

/-- Severity of a rain state, RAIN worse than WET worse than DRY (R31); also its code (R168). -/
def Rain.rank : Rain → Nat
  | .dry => 0 | .wet => 1 | .rain => 2

/-- The rain state a code names (R168). -/
def Rain.ofCode (n : Nat) : Option Rain :=
  match n with
  | 0 => some .dry | 1 => some .wet | 2 => some .rain | _ => none

/-- The worse of two rain states (R31). -/
def Rain.worse (a b : Rain) : Rain := if a.rank < b.rank then b else a

/-- Code of a WEATHER cause (R168). -/
def Cause.code : Cause → Nat
  | .periodic => 0 | .rainChange => 1 | .gustLevel => 2

/-- Code of a RELEASE outcome (R168). -/
def ReleaseOutcome.code : ReleaseOutcome → Nat
  | .done => 0 | .stopped => 1 | .fault => 2 | .supply => 3 | .yielded => 4 | .withdrawn => 5

/-- Code of a role (R168). -/
def Role.code : Role → Nat
  | .drive => 0 | .sense => 1 | .both => 2

/-- Code of a picture status (R168). -/
def PictureStatus.code : PictureStatus → Nat
  | .starting => 0 | .valid => 1 | .degraded => 2 | .partly => 3 | .lost => 4

/-- Code of a commit outcome (R168). -/
def CommitOutcome.code : CommitOutcome → Nat
  | .none => 0 | .ok => 1 | .refused => 2

/-- Code of a run state (R168). -/
def RunState.code : RunState → Nat
  | .idle => 0 | .waitSlot => 1 | .starting => 2 | .driving => 3 | .coasting => 4 | .dwell => 5
  | .backoff => 6 | .blocked => 7 | .supplyWait => 8 | .fault => 9

/-- Code of a fault (R168). -/
def FaultKind.code : FaultKind → Nat
  | .none => 0 | .stallSilent => 1 | .stallCurrent => 2 | .pinch => 3 | .travel => 4 | .overrun => 5
  | .cal => 6

/-- Code of an end cause (R168). -/
def EndCause.code : EndCause → Nat
  | .done => 0 | .stopped => 1 | .yielded => 2 | .positionLost => 3 | .supply => 4 | .fault => 5

/-- The run states in which the motor output is energised (R79). -/
def RunState.energised : RunState → Bool
  | .starting => true | .driving => true | .backoff => true
  | .idle => false | .waitSlot => false | .coasting => false | .dwell => false | .blocked => false
  | .supplyWait => false | .fault => false

/-- The run states of a drive for a job (R90). -/
def RunState.drivingJob : RunState → Bool
  | .starting => true | .driving => true
  | .idle => false | .waitSlot => false | .coasting => false | .dwell => false | .backoff => false
  | .blocked => false | .supplyWait => false | .fault => false

/-- The number of a channel, 0 or 1. -/
def chanNat : Chan → Nat
  | .c0 => 0 | .c1 => 1

/-- The channel a byte names, if it names one (R127). -/
def chanOfCode (n : Nat) : Option Chan :=
  match n with
  | 0 => some .c0 | 1 => some .c1 | _ => none

/-- The node's other channel. -/
def chanOther : Chan → Chan
  | .c0 => .c1 | .c1 => .c0

end Sys2Proof.Machine
end

