-- ==== Sys2Proof/Machine/Settings.lean ====
section
/-! DEFINITION. The configuration block: the settings it holds, its defaults, its decoding with the clamps
(11_start_up_and_configuration.md R182, R183 and layout 11.3; R21, R37, R77, R106, R124, R174, R179), and
the CRC that protects it and every frame (R167). -/

namespace Sys2Proof.Machine

open Sys2Proof

/-- Something held once per channel. -/
structure Pair (α : Type) where
  c0 : α
  c1 : α
  deriving DecidableEq, Repr

/-- The value of one channel. -/
def Pair.get {α : Type} (p : Pair α) (c : Chan) : α :=
  match c with
  | .c0 => p.c0
  | .c1 => p.c1

/-- The pair with one channel's value replaced. -/
def Pair.set {α : Type} (p : Pair α) (c : Chan) (x : α) : Pair α :=
  match c with
  | .c0 => { p with c0 := x }
  | .c1 => { p with c1 := x }

/-- The settings of one channel (R37, 4.1, R77, R106). -/
structure ChanSettings where
  kind : Kind
  faceNormal : Nat
  weight : Nat
  latchMode : LatchMode
  zoneBase : Half
  zoneMask : Half
  travel : Nat
  coast : Nat
  speed : Nat
  ramp : Nat
  dwell : Nat
  spacing : Nat
  snap : Nat
  stall : Nat
  backoff : Nat
  retry : Nat
  overcurrent : Nat
  deriving DecidableEq, Repr

/-- One slot of the source table: an address 0..62 or 255, and a tier (R20, R21). -/
structure SourceSlot where
  address : Nat
  tier : Tier
  deriving DecidableEq, Repr

/-- The working configuration (R182, layout 11.3). -/
structure Settings where
  factor : Nat
  rainMode : RainMode
  rainRising : Bool
  wetHigh : Bool
  compare : Nat
  rOn : Nat
  rHeavy : Nat
  pubInterval : Nat
  failSafe : Level
  gWatch : Nat
  gClose : Nat
  gSevere : Nat
  drClose : Nat
  tRel : Nat
  tStale : Nat
  watchLimit : Nat
  startHome : Bool
  segment : Nat
  capacity : Nat
  statusInterval : Nat
  outSource : OutputSource
  outPolarity : Polarity
  ch1Present : Bool
  sources : List SourceSlot
  ch : Pair ChanSettings
  deriving DecidableEq, Repr

/-- The default channel record (layout 11.3, default column). -/
def defaultChan : ChanSettings where
  kind := .skylight
  faceNormal := 0
  weight := 16
  latchMode := .follow
  zoneBase := 0
  zoneMask := 0
  travel := 65000
  coast := 20
  speed := 400
  ramp := 500
  dwell := 500
  spacing := 0
  snap := 4
  stall := 300
  backoff := 200
  retry := 20
  overcurrent := 160

/-- An unused source slot (R21: address 255). The default block gives it no priority: DESIGN CHOICE, FIRST
(R36; log 36). -/
def emptySlot : SourceSlot := { address := 255, tier := .first }

/-- The default block (R182; layout 11.3, default column). -/
def defaultSettings : Settings where
  factor := 160
  rainMode := .event
  rainRising := true
  wetHigh := true
  compare := 1
  rOn := 2
  rHeavy := 12
  pubInterval := 5
  failSafe := .close
  gWatch := 80
  gClose := 140
  gSevere := 200
  drClose := 50
  tRel := 15
  tStale := 45
  watchLimit := 25
  startHome := true
  segment := 0
  capacity := 1
  statusInterval := 60
  outSource := .fault
  outPolarity := .activeLow
  ch1Present := true
  sources := { address := 0, tier := .first } :: List.replicate 7 emptySlot
  ch := { c0 := defaultChan, c1 := defaultChan }

/-- The nearest value within a range (00_scope.md, Arithmetic). -/
def clamp (lo hi x : Nat) : Nat := max lo (min hi x)

/-- A decoded field, and whether taking it raised the config-fault flag. -/
structure Taken (α : Type) where
  value : α
  flag : Bool
  deriving DecidableEq, Repr

/-- R183, number outside its range: clamped, and the flag is set. -/
def takeNumber (lo hi x : Nat) : Taken Nat :=
  { value := clamp lo hi x, flag := decide (x < lo ∨ hi < x) }

/-- R183, code that names none of its values: the default is used, and the flag is set. -/
def takeCode {α : Type} (dflt : α) (o : Option α) : Taken α :=
  match o with
  | some a => { value := a, flag := false }
  | none => { value := dflt, flag := true }

/-- A code of two values. -/
def codeOf2 {α : Type} (a b : α) (n : Nat) : Option α :=
  match n with
  | 0 => some a
  | 1 => some b
  | _ => none

/-- The status output source a code names (R179). -/
def OutputSource.ofCode (n : Nat) : Option OutputSource :=
  match n with
  | 0 => some .heldClose | 1 => some .notValid | 2 => some .fault | 3 => some .allClosed
  | 4 => some .line | 5 => some .localRain | 6 => some .low | 7 => some .high
  | _ => none

/-- R37: the fail-safe level is CALM, WATCH or CLOSE; any other code is taken as CLOSE with the flag. -/
def failSafeOfCode (n : Nat) : Option Level :=
  match n with
  | 0 => some .calm | 1 => some .watch | 2 => some .close | _ => none

/-- The byte at an offset of the block, as a number. -/
def byteAt (b : List Byte) (k : Nat) : Nat := (b.getD k 0).toNat

/-- The two-byte field at an offset of the block, high byte first. -/
def halfAt (b : List Byte) (k : Nat) : Nat := byteAt b k * 256 + byteAt b (k + 1)

/-- R106: marker spacing. 1..15 is raised to 16 and above 4096 lowered to 4096, with the flag; a spacing
so formed of L or more means no markers and raises none. -/
def takeSpacing (travel x : Nat) : Taken Nat :=
  let t := if x = 0 then { value := 0, flag := false } else takeNumber 16 4096 x
  { t with value := if travel ≤ t.value then 0 else t.value }

/-- R106: the snap tolerance is clamped to 1..floor(S_m / 4), and not examined without markers. -/
def takeSnap (spacing x : Nat) : Taken Nat :=
  if spacing = 0 then { value := x, flag := false } else takeNumber 1 (spacing / 4) x

/-- The channel record at an offset of the block (layout 11.3), decoded and clamped (R183, R37, R77,
R106). -/
def takeChan (b : List Byte) (o : Nat) : Taken ChanSettings :=
  let kind := takeCode .skylight (codeOf2 .skylight .window (byteAt b o))
  let face := takeNumber 0 15 (byteAt b (o + 1))
  let weight := takeNumber 8 32 (byteAt b (o + 2))
  let mode := takeCode .follow (codeOf2 .follow .keep (byteAt b (o + 3)))
  let travel := takeNumber 100 65000 (halfAt b (o + 8))
  let speed := takeNumber 10 2000 (halfAt b (o + 11))
  let ramp := takeNumber 0 2000 (halfAt b (o + 13))
  let dwell := takeNumber 100 2000 (halfAt b (o + 15))
  let spacing := takeSpacing travel.value (halfAt b (o + 17))
  let snap := takeSnap spacing.value (byteAt b (o + 19))
  let stall := takeNumber 50 1000 (halfAt b (o + 20))
  let backoff := takeNumber 0 4095 (halfAt b (o + 22))
  let retry := takeNumber 5 120 (byteAt b (o + 24))
  { value :=
      { kind := kind.value, faceNormal := face.value, weight := weight.value, latchMode := mode.value
        zoneBase := BitVec.ofNat 16 (halfAt b (o + 4)), zoneMask := BitVec.ofNat 16 (halfAt b (o + 6))
        travel := travel.value, coast := byteAt b (o + 10), speed := speed.value, ramp := ramp.value
        dwell := dwell.value, spacing := spacing.value, snap := snap.value, stall := stall.value
        backoff := backoff.value, retry := retry.value, overcurrent := byteAt b (o + 25) }
    flag := kind.flag || face.flag || weight.flag || mode.flag || travel.flag || speed.flag || ramp.flag
      || dwell.flag || spacing.flag || snap.flag || stall.flag || backoff.flag || retry.flag }

/-- One source slot, given the node's own address and the addresses that slots of lower index carry
(R21). -/
def takeSource (own : Nat) (earlier : List Nat) (address priority : Nat) : Taken SourceSlot :=
  let tier : Taken Tier := takeCode .first (codeOf2 .first .second priority)
  if address = 255 then { value := { address := 255, tier := tier.value }, flag := tier.flag }
  else if 62 < address ∨ (address = own ∧ address ≠ 0) ∨ address ∈ earlier then
    { value := { address := 255, tier := tier.value }, flag := true }
  else { value := { address := address, tier := tier.value }, flag := tier.flag }

/-- The source slots from index `i` on, with the addresses of the slots before them (R21). -/
def takeSources (b : List Byte) (own : Nat) (earlier : List Nat) (i : Nat) :
    Nat → Taken (List SourceSlot)
  | 0 => { value := [], flag := false }
  | k + 1 =>
    let slot := takeSource own earlier (byteAt b (26 + 2 * i)) (byteAt b (27 + 2 * i))
    let rest := takeSources b own (byteAt b (26 + 2 * i) :: earlier) (i + 1) k
    { value := slot.value :: rest.value, flag := slot.flag || rest.flag }

/-- R124: a segment above 15 is taken as 0, with the flag. -/
def takeSegment (x : Nat) : Taken Nat :=
  if 15 < x then { value := 0, flag := true } else { value := x, flag := false }

/-- A block whose CRC matches, decoded and clamped (R183). The order of the three thresholds is not looked at
here: they are put in ascending form at the load (R37, `Settings.ascend`). -/
def decodeBlock (own : Addr) (b : List Byte) : Taken Settings :=
  let factor := takeNumber 1 4095 (halfAt b 0)
  let options := b.getD 2 0
  let compare := takeNumber 1 255 (byteAt b 3)
  let rOn := takeNumber 1 15 (byteAt b 4)
  let rHeavy := takeNumber 2 60 (byteAt b 5)
  let pub := takeNumber 1 10 (byteAt b 6)
  let failSafe := takeCode .close (failSafeOfCode (byteAt b 7))
  let watch := takeNumber 0 999 (halfAt b 8)
  let close := takeNumber 0 999 (halfAt b 10)
  let severe := takeNumber 0 999 (halfAt b 12)
  let dr := takeNumber 0 999 (halfAt b 14)
  let tRel := takeNumber 1 60 (byteAt b 16)
  let tStale := takeNumber 5 120 (byteAt b 17)
  let limit := takeNumber 0 100 (byteAt b 18)
  let start := takeCode true (codeOf2 false true (byteAt b 19))
  let segment := takeSegment (byteAt b 20)
  let capacity := takeNumber 1 4 (byteAt b 21)
  let interval := takeNumber 10 120 (byteAt b 22)
  let source := takeCode .fault (OutputSource.ofCode (byteAt b 23))
  let polarity := takeCode .activeLow (codeOf2 .activeLow .activeHigh (byteAt b 24))
  let ch1 := takeCode true (codeOf2 false true (byteAt b 25))
  let sources := takeSources b own.toNat [] 0 8
  let chan0 := takeChan b 42
  let chan1 := takeChan b 68
  { value :=
      { factor := factor.value
        rainMode := if options.getLsbD 0 then .gated else .event
        rainRising := !options.getLsbD 1
        wetHigh := !options.getLsbD 2
        compare := compare.value, rOn := rOn.value, rHeavy := rHeavy.value, pubInterval := pub.value
        failSafe := failSafe.value, gWatch := watch.value, gClose := close.value
        gSevere := severe.value, drClose := dr.value, tRel := tRel.value, tStale := tStale.value
        watchLimit := limit.value, startHome := start.value, segment := segment.value
        capacity := capacity.value, statusInterval := interval.value, outSource := source.value
        outPolarity := polarity.value, ch1Present := ch1.value, sources := sources.value
        ch := { c0 := chan0.value, c1 := chan1.value } }
    flag := factor.flag || compare.flag || rOn.flag || rHeavy.flag || pub.flag || failSafe.flag
      || watch.flag || close.flag || severe.flag || dr.flag || tRel.flag || tStale.flag
      || limit.flag || start.flag || segment.flag || capacity.flag || interval.flag || source.flag
      || polarity.flag || ch1.flag || sources.flag || chan0.flag || chan1.flag }

/-- A raised threshold (R37): the value, and whether it was raised. -/
def raiseTo (lo x : Nat) : Taken Nat :=
  if x < lo then { value := lo, flag := true } else { value := x, flag := false }

/-- The settings with the gust thresholds in ascending form (R37): G_close raised to G_watch, then G_severe to
the G_close so formed, and whether either was raised. -/
def Settings.ascend (cfg : Settings) : Taken Settings :=
  let close := raiseTo cfg.gWatch cfg.gClose
  let severe := raiseTo close.value cfg.gSevere
  { value := { cfg with gClose := close.value, gSevere := severe.value }
    flag := close.flag || severe.flag }

/-- One shift of the CRC register (R167). -/
def crcShift (r : Half) : Half := if r.msb then (r <<< 1) ^^^ 0x1021#16 else r <<< 1

/-- One byte taken into the CRC register (R167): combined into the high eight bits, then eight shifts. -/
def crcByte (r : Half) (b : Byte) : Half :=
  Nat.repeat crcShift 8 (r ^^^ (b.zeroExtend 16 <<< 8))

/-- The CRC of a run of bytes (R167). -/
def crc16 (bytes : List Byte) : Half := bytes.foldl crcByte 0xFFFF#16

/-- R182: the CRC over bytes 0..93 equals bytes 94..95, read high byte first. -/
def blockSound (b : List Byte) : Bool :=
  b.length == 96 && (crc16 (b.take 94)).toNat == halfAt b 94

/-- R182: the working configuration formed from a block as read: decoded where its check passes, the
default block with the flag where it fails. -/
def formSettings (own : Addr) (sound : Bool) (b : List Byte) : Taken Settings :=
  if sound && blockSound b then decodeBlock own b else { value := defaultSettings, flag := true }

end Sys2Proof.Machine
end

