-- ==== Sys2Proof/Machine/State.lean ====
section
/-! DEFINITION. The state of the node as plain data: one structure per block of 00_scope.md, the pins, the
configuration store, the node's clock and the queue of waiting commands; and the state right after reset.
INVENTORY.md, State, names the rule of each field. -/

namespace Sys2Proof.Machine

open Sys2Proof

/-- No rule of the manual stops the node, and no meaning of this model does: there is no fault. -/
inductive Fault
  deriving DecidableEq, Repr

/-- Reasons for which a command has no meaning. -/
inductive Refusal where
  /-- Raised by an arm of `exec` whose command is not modelled; safe, since the model stops there. No arm
  raises it. -/
  | notModelled (mnemonic : String)
  deriving DecidableEq, Repr

/-! ### Pins and start-up -/

/-- Input levels of one channel (R81, R85, R113, R115). -/
structure ChanPins where
  closedLimit : Bool
  openLimit : Bool
  edge : Bool
  sensed : Nat
  deriving DecidableEq, Repr

/-- Input levels of the node. They belong to the wiring outside, so a reset leaves them (log 5). -/
structure Pins where
  rainHigh : Bool
  keyLocal : Bool
  supplyGood : Bool
  lineDominant : Bool
  ch : Pair ChanPins
  deriving DecidableEq, Repr

/-- The straps as latched (R181). -/
structure Straps where
  address : Addr
  roleCode : BitVec 2
  commissioning : Bool
  deriving DecidableEq, Repr

/-! ### Weather Inputs -/

/-- One entry of the sample ring (R2). -/
structure Sample where
  count : Nat
  sector : Nat
  speed : Nat
  deriving DecidableEq, Repr

/-- The Weather Inputs block (R1 to R19). Moments are in ms of the node's clock. -/
structure Wxi where
  count : Nat
  ring : List Sample
  gust : Nat
  mean : Nat
  direction : Nat
  windOk : Bool
  rainCounter : Nat
  minuteRing : List Nat
  rain : Rain
  heavy : Bool
  amount : Nat
  rainOk : Bool
  recovery : Option Nat
  wetTimer : Option Nat
  prevEdge : Option Nat
  pub : PubState
  cause : Option Cause
  /-- The deferred request: whether it is URGENT, and its cause. -/
  deferred : Option (Bool × Cause)
  band : Nat
  periodic : Nat
  seq : Nat
  windows : Nat
  windowEnd : Option Nat
  rainTickAt : Option Nat
  deriving DecidableEq, Repr

/-! ### Sources and picture -/

/-- An observation as SRC stores it (R20); the amount is not stored. -/
structure Observation where
  rain : Rain
  heavy : Bool
  gust : Nat
  mean : Nat
  direction : Nat
  windOk : Bool
  rainOk : Bool
  deriving DecidableEq, Repr

/-- A source entry (R20). The stale timer of a LIVE entry runs from `acceptedAt` (R26). -/
structure SourceEntry where
  address : Nat
  tier : Tier
  status : EntryStatus
  obs : Observation
  lastSeq : Option Nat
  acceptedAt : Option Nat
  deriving DecidableEq, Repr

/-- The picture record (R28). -/
structure Picture where
  gust : Nat
  mean : Nat
  direction : Nat
  windSource : SourceTier
  rain : Rain
  heavy : Bool
  rainSource : SourceTier
  status : PictureStatus
  deriving DecidableEq, Repr

/-- The Source Table and Picture block; no entries until the load (R36). -/
structure Src where
  entries : List SourceEntry
  picture : Picture
  deriving DecidableEq, Repr

/-! ### Threat Unit -/

/-- A channel's threat record (R38). -/
structure Threat where
  raw : Level
  held : Level
  hold : Option Nat
  latch : Bool
  deriving DecidableEq, Repr

/-! ### Request Table -/

/-- What a request entry asks of a channel (R55). -/
inductive Action where
  | close
  | openTo (percent : Nat)
  | stop
  deriving DecidableEq, Repr

/-- A present request entry (R55). -/
structure Entry where
  action : Action
  cls : Class
  arrival : Nat
  expiry : Option Nat
  deriving DecidableEq, Repr

/-- The request table of one channel (R55). -/
structure ReqTable where
  weather : Option Entry
  order : Option Entry
  panel : Option Entry
  service : Option Entry
  deriving DecidableEq, Repr

/-- The Request Table block. `effective` is the origin on which the last selection fell (R59). -/
structure Req where
  table : Pair ReqTable
  arrival : Nat
  effective : Pair (Option Origin)
  deriving DecidableEq, Repr

/-! ### Drive Channels -/

/-- The drive work of a run, with its target in pulses (R86). -/
inductive Job where
  | home
  | seek (target : Nat)
  | homeThenSeek (target : Nat)
  deriving DecidableEq, Repr

/-- Which part of a HOME_THEN_SEEK is in hand (R78). -/
inductive Part where
  | homePart | seekPart
  deriving DecidableEq, Repr

/-- What the channel does when its coast or dwell ends (R92, R96 to R98, R114). -/
inductive Continuation where
  | none
  | job (j : Job) (part : Option Part)
  | backoff
  deriving DecidableEq, Repr

/-- The cause a run is headed for, with the failure kind of a FAULT (R92, R117). -/
inductive Heading where
  | done | stopped | yielded | positionLost | supply
  | fault (kind : FaultKind)
  deriving DecidableEq, Repr

/-- An effective request as handed over (R59, R83). -/
structure Standing where
  origin : Origin
  action : Action
  cls : Class
  satisfied : Bool
  deriving DecidableEq, Repr

/-- A Drive Channel record (R78), with the state of 06 (R107, R112, R113, R116, R118). -/
structure Channel where
  position : Nat
  known : Bool
  runState : RunState
  job : Option Job
  part : Option Part
  direction : Dir
  travelCount : Nat
  travelBudget : Nat
  overrunMs : Nat
  estimate : Option Nat
  claimedJob : Option Job
  continuation : Continuation
  headed : Option Heading
  standing : Option Standing
  slips : Nat
  passed : List Nat
  pinched : Bool
  failures : Nat
  fault : FaultKind
  lastEnd : EndCause
  backoffCount : Nat
  calOffset : Nat
  rampMid : Option Nat
  rampEnd : Option Nat
  coast : Option Nat
  dwell : Option Nat
  stall : Option Nat
  overcurrent : Option Nat
  retry : Option Nat
  /-- The moment of the last retry expiry, by which a fault reset of the same instant is known: the model's
  own field (R122; log 34). -/
  retriedAt : Option Nat
  deriving DecidableEq, Repr

/-- The motor supply status and its qualification timer (R101). -/
structure Supply where
  status : SupplyStatus
  qualify : Option Nat
  deriving DecidableEq, Repr

/-! ### Run Slot Unit -/

/-- An entry of the run table (R126). -/
structure RunEntry where
  node : Nat
  chan : Chan
  cls : Class
  token : Nat
  estimate : Nat
  arrival : Nat
  settled : Bool
  expiry : Nat
  deriving DecidableEq, Repr

/-- Class and estimate of a claim (R130). -/
structure ClaimVals where
  cls : Class
  estimate : Nat
  deriving DecidableEq, Repr

/-- A claim record (R130). `completion` is the moment tc of R134. `heard` is the model's own (log 21): the tokens
of the channel's claims whose CLAIM has gone out, which tells of a RELEASE that outlives its claim's record whether
that claim was announced (R140, R143). -/
structure ClaimRecord where
  state : ClaimState
  token : Nat
  announcedVals : Option ClaimVals
  current : Option ClaimVals
  announced : Bool
  heard : List Nat
  completion : Option Nat
  window : Option Nat
  stagger : Option Nat
  retry : Option Nat
  owedRelease : Option (Nat × ReleaseOutcome)
  owedRenewal : Bool
  deriving DecidableEq, Repr

/-- The Run Slot Unit. -/
structure Rsu where
  table : List RunEntry
  tokenCounter : Nat
  working : Nat
  mismatch : Bool
  claims : Pair ClaimRecord
  deriving DecidableEq, Repr

/-! ### Line Interface -/

/-- A channel record of a STATE frame (R166). -/
structure StateRecord where
  position : Byte
  runState : Byte
  held : Byte
  flags : Byte
  fault : Byte
  lastEnd : Byte
  failures : Byte
  deriving DecidableEq, Repr

/-- The payload of a STATE frame (R166, R171). -/
structure StateFields where
  role : Byte
  picture : Byte
  nodeFlags : Byte
  commit : Byte
  ch0 : StateRecord
  ch1 : StateRecord
  deriving DecidableEq, Repr

/-- The content of a frame of the node's own (R166). -/
inductive Content where
  | weather (f : WeatherFields)
  | claim (f : ClaimFields)
  | release (f : ReleaseFields)
  | report (f : StateFields)
  | order (action : Byte) (f : OrderFields)
  deriving DecidableEq, Repr

/-- The seven places of the transmit queue (R151). -/
inductive Place where
  | claim (c : Chan)
  | release (c : Chan)
  | weather
  | report
  | order
  deriving DecidableEq, Repr

/-- A request to queue a frame; the content of WEATHER and STATE frames is taken later (R148). -/
structure TxRequest where
  urgent : Bool
  content : Option Content
  deriving DecidableEq, Repr

/-- A queued frame (R151); `age` is the ordinal of its entry (log 14). -/
structure TxFrame where
  urgent : Bool
  attempts : Nat
  age : Nat
  content : Option Content
  deriving DecidableEq, Repr

/-- A place of the queue with its successor (R151, R154). -/
structure TxSlot where
  frame : Option TxFrame
  successor : Option TxRequest
  deriving DecidableEq, Repr

/-- The transmit queue (R151). -/
structure TxQueue where
  claim : Pair TxSlot
  release : Pair TxSlot
  weather : TxSlot
  report : TxSlot
  order : TxSlot
  deriving DecidableEq, Repr

/-- The receive assembly (R156). -/
structure Assembly where
  state : AssemblyState
  bytes : List Byte
  deriving DecidableEq, Repr

/-- The Line Interface. `giveUp`, `stuck` and `conflict` are the isolation causes, `conflict` also the
conflict flag (R160, R158). `accepted` holds, oldest first, the commands of frames accepted at a quiet
and not yet acted on (log 10). -/
structure Lin where
  queue : TxQueue
  ages : Nat
  attempt : Option Place
  sending : List Byte
  round : Bool
  assembly : Assembly
  giveUp : Bool
  stuck : Bool
  conflict : Bool
  stuckTimer : Option Nat
  accepted : List Instr
  deriving DecidableEq, Repr

/-- The reporting functions (R174, R177, R180). -/
structure Report where
  interval : Option Nat
  outcome : CommitOutcome
  released : Bool
  deriving DecidableEq, Repr

/-! ### The node -/

/-- The node. -/
structure State where
  pending : List Instr
  now : Nat
  freeCount : Nat
  phase : Phase
  straps : Straps
  config : Settings
  configFault : Bool
  blockRead : List Byte
  calLeft : List Chan
  calAt : Option Nat
  listenInAt : Option Nat
  store : List Byte
  storeTorn : Bool
  staging : List Byte
  commitState : CommitState
  pins : Pins
  wxi : Wxi
  src : Src
  thr : Pair Threat
  req : Req
  dch : Pair Channel
  supply : Supply
  rsu : Rsu
  lin : Lin
  rep : Report
  deriving DecidableEq, Repr

/-! ### Reset values -/

/-- R19. -/
def Wxi.reset : Wxi where
  count := 0
  ring := []
  gust := 0
  mean := 0
  direction := 255
  windOk := true
  rainCounter := 0
  minuteRing := List.replicate 10 0
  rain := .dry
  heavy := false
  amount := 0
  rainOk := true
  recovery := none
  wetTimer := none
  prevEdge := none
  pub := .idle
  cause := none
  deferred := none
  band := 0
  periodic := 1
  seq := 0
  windows := 0
  windowEnd := none
  rainTickAt := none

/-- R36: the observation of an entry after reset. -/
def Observation.reset : Observation where
  rain := .dry
  heavy := false
  gust := 0
  mean := 0
  direction := 255
  windOk := false
  rainOk := false

/-- R36: the picture after reset. -/
def Picture.reset : Picture where
  gust := 0
  mean := 0
  direction := 255
  windSource := .lost
  rain := .dry
  heavy := false
  rainSource := .lost
  status := .starting

/-- R54. -/
def Threat.reset : Threat where
  raw := .calm
  held := .calm
  hold := none
  latch := false

/-- R76: every entry absent. -/
def ReqTable.reset : ReqTable where
  weather := none
  order := none
  panel := none
  service := none

/-- R76. -/
def Req.reset : Req where
  table := { c0 := .reset, c1 := .reset }
  arrival := 0
  effective := { c0 := none, c1 := none }

/-- R105, R123. -/
def Channel.reset : Channel where
  position := 0
  known := false
  runState := .idle
  job := none
  part := none
  direction := .closing
  travelCount := 0
  travelBudget := 0
  overrunMs := 0
  estimate := none
  claimedJob := none
  continuation := .none
  headed := none
  standing := none
  slips := 0
  passed := []
  pinched := false
  failures := 0
  fault := .none
  lastEnd := .done
  backoffCount := 0
  calOffset := 0
  rampMid := none
  rampEnd := none
  coast := none
  dwell := none
  stall := none
  overcurrent := none
  retry := none
  retriedAt := none

/-- R145: a claim record after reset. -/
def ClaimRecord.reset : ClaimRecord where
  state := .none
  token := 0
  announcedVals := none
  current := none
  announced := false
  heard := []
  completion := none
  window := none
  stagger := none
  retry := none
  owedRelease := none
  owedRenewal := false

/-- R145. The working capacity is set at the load (log 6 names its value before). -/
def Rsu.reset : Rsu where
  table := []
  tokenCounter := 0
  working := 1
  mismatch := false
  claims := { c0 := .reset, c1 := .reset }

/-- An empty place with an empty successor (R163). -/
def TxSlot.reset : TxSlot where
  frame := none
  successor := none

/-- R163. -/
def TxQueue.reset : TxQueue where
  claim := { c0 := .reset, c1 := .reset }
  release := { c0 := .reset, c1 := .reset }
  weather := .reset
  report := .reset
  order := .reset

/-- R163. -/
def Lin.reset : Lin where
  queue := .reset
  ages := 0
  attempt := none
  sending := []
  round := false
  assembly := { state := .waitQuiet, bytes := [] }
  giveUp := false
  stuck := false
  conflict := false
  stuckTimer := none
  accepted := []

/-- Input levels before anything has set them: DESIGN CHOICE, unsafe (log 5). -/
def Pins.initial : Pins where
  rainHigh := false
  keyLocal := false
  supplyGood := true
  lineDominant := false
  ch := { c0 := { closedLimit := false, openLimit := false, edge := false, sensed := 0 }
          c1 := { closedLimit := false, openLimit := false, edge := false, sensed := 0 } }

/-- A block of zeros: DESIGN CHOICE, unsafe, for the store before anything has written it and for the
copies of it before it is read (log 6, 7). -/
def zeroBlock : List Byte := List.replicate 96 0

/-- The node right after reset: held in reset, every block in the reset state its chapter gives (R181). -/
def State.reset : State where
  pending := []
  now := 0
  freeCount := 0
  phase := .held
  straps := { address := 0, roleCode := 0, commissioning := false }
  config := defaultSettings
  configFault := false
  blockRead := zeroBlock
  calLeft := []
  calAt := none
  listenInAt := none
  store := zeroBlock
  storeTorn := false
  staging := zeroBlock
  commitState := .idle
  pins := .initial
  wxi := .reset
  src := { entries := [], picture := .reset }
  thr := { c0 := .reset, c1 := .reset }
  req := .reset
  dch := { c0 := .reset, c1 := .reset }
  supply := { status := .low, qualify := none }
  rsu := .reset
  lin := .reset
  rep := { interval := none, outcome := .none, released := true }

end Sys2Proof.Machine
end

