-- ==== Sys2Proof/WellFormed.lean ====
section
/-! DEFINITION. Well-formedness of commands: the operands that the rules allow an event to carry. The
meanings are total and do not need it; it says which commands a line, a panel or a time base can send. -/

namespace Sys2Proof

/-- The source of an accepted frame is a station address, 1..62 (R157, R165). -/
def Addr.isStation (a : Addr) : Bool := a != 0#6 && a != 63#6

/-- The operands of a command are ones its event can carry. -/
def Instr.wellFormed : Instr → Bool
  | .weatherFrame a _ => a.isStation
  | .orderClose a _ => a.isStation
  | .orderOpen a _ => a.isStation
  | .orderStop a _ => a.isStation
  | .orderShutFor a _ => a.isStation
  | .orderUnlatch a _ => a.isStation
  | .orderResetFault a _ => a.isStation
  | .orderUnknownAction a action _ => a.isStation && (action == 0#8 || 6 < action.toNat)
  | .claimFrame a _ => a.isStation
  | .releaseFrame a _ => a.isStation
  | .runTableExpiry node _ => node.isStation
  | .attemptStart slot => decide (slot < 24)
  | .stateFrame a payload => a.isStation && payload.length == 18
  | .configData a _ _ data => a.isStation && data.length == 16
  | .configCommit a _ _ => a.isStation
  | .storeWriteEnd readback => readback.length == 96
  | .powerOnReset => true
  | .resetN => true
  | .resetRelease _ _ _ _ => true
  | .calibrationEnd _ _ => true
  | .listenInEnd => true
  | .anemometerEdge => true
  | .sampleWindowEnd _ => true
  | .rainEdge _ => true
  | .rainTick => true
  | .rainRecoveryExpiry => true
  | .rainLevelChange _ => true
  | .wetDurationExpiry => true
  | .staleTimerExpiry _ => true
  | .releaseHoldExpiry _ => true
  | .orderExpiry _ => true
  | .panelOpenPress _ => true
  | .panelClosePress _ => true
  | .ackPress => true
  | .zoneClosePress => true
  | .keySwitchChange _ => true
  | .encoderPulse _ => true
  | .closedLimitChange _ _ => true
  | .openLimitActive _ _ => true
  | .rampMidpoint _ => true
  | .rampEnd _ => true
  | .coastEnd _ => true
  | .dwellEnd _ => true
  | .overrun _ => true
  | .supplyLow => true
  | .supplyReturn => true
  | .supplyQualified => true
  | .markerEdge _ => true
  | .stallTimerExpiry _ => true
  | .overcurrentChange _ _ => true
  | .overcurrentTimerExpiry _ => true
  | .safetyEdgeActive _ _ => true
  | .retryDelayExpiry _ => true
  | .claimWindowEnd _ => true
  | .staggerEnd _ => true
  | .claimRetryExpiry _ => true
  | .lineQuiet => true
  | .collision => true
  | .attemptComplete => true
  | .stuckTimerExpiry => true
  | .addressConflict => true
  | .statusIntervalExpiry => true
  | .byteReceived _ _ => true
  | .lineLevelChange _ => true

end Sys2Proof
end

