-- ==== Sys2Proof/Machine/Operands.lean ====
section
/-! DEFINITION. Frames: their bytes, their checks, and the command each accepted frame is
(09_frames.md R165 to R173; receive checks R157, dispatch by kind R159). -/

namespace Sys2Proof.Machine

open Sys2Proof

/-- The SYNC byte (R165). -/
def syncByte : Byte := 0x5A#8

/-- The kinds of frame (R166). -/
inductive FrameKind where
  | weather | claim | release | report | order | configData | configCommit
  deriving DecidableEq, Repr

/-- The KIND code of a kind (R166). -/
def FrameKind.code : FrameKind → Byte
  | .weather => 0x12#8 | .claim => 0x18#8 | .release => 0x10#8 | .report => 0x11#8
  | .order => 0x14#8 | .configData => 0x21#8 | .configCommit => 0x23#8

/-- The LENGTH of a kind (R166). -/
def FrameKind.length : FrameKind → Nat
  | .weather => 11 | .claim => 7 | .release => 4 | .report => 18
  | .order => 7 | .configData => 18 | .configCommit => 3

/-- The kind a KIND code names (R166). -/
def FrameKind.ofCode (b : Byte) : Option FrameKind :=
  if b = 0x12#8 then some .weather
  else if b = 0x18#8 then some .claim
  else if b = 0x10#8 then some .release
  else if b = 0x11#8 then some .report
  else if b = 0x14#8 then some .order
  else if b = 0x21#8 then some .configData
  else if b = 0x23#8 then some .configCommit
  else none

/-- The high byte of a two-byte field. -/
def hiByte (h : Half) : Byte := h.extractLsb' 8 8

/-- The low byte of a two-byte field. -/
def loByte (h : Half) : Byte := h.extractLsb' 0 8

/-- The two-byte field at an offset of a payload, high byte first (R165). -/
def fieldHalf (p : List Byte) (k : Nat) : Half := p.getD k 0 ++ p.getD (k + 1) 0

/-- A frame: header, payload and check (R165). -/
def frameOf (kind : FrameKind) (source : Addr) (payload : List Byte) : List Byte :=
  let body := kind.code :: source.zeroExtend 8 :: BitVec.ofNat 8 kind.length :: payload
  syncByte :: body ++ [hiByte (crc16 body), loByte (crc16 body)]

/-- The payload of a WEATHER frame (R166, R169). -/
def weatherBytes (f : WeatherFields) : List Byte :=
  [f.sequence, f.rain, f.flags, hiByte f.amount, loByte f.amount, hiByte f.gust, loByte f.gust,
    hiByte f.mean, loByte f.mean, f.direction, f.cause]

/-- The payload of a CLAIM frame (R166, R170). -/
def claimBytes (f : ClaimFields) : List Byte :=
  [f.segment, f.channel, f.cls, f.token, f.estimate, f.capacity, f.renew]

/-- The payload of a RELEASE frame (R166, R170). -/
def releaseBytes (f : ReleaseFields) : List Byte :=
  [f.segment, f.channel, f.token, f.outcome]

/-- A channel record of a STATE frame (R166). -/
def recordBytes (r : StateRecord) : List Byte :=
  [r.position, r.runState, r.held, r.flags, r.fault, r.lastEnd, r.failures]

/-- The payload of a STATE frame (R166, R171). -/
def stateBytes (f : StateFields) : List Byte :=
  [f.role, f.picture, f.nodeFlags, f.commit] ++ recordBytes f.ch0 ++ recordBytes f.ch1

/-- The payload of an ORDER frame (R166, R172). -/
def orderBytes (action : Byte) (f : OrderFields) : List Byte :=
  [hiByte f.zoneCode, loByte f.zoneCode, hiByte f.zoneMask, loByte f.zoneMask, action, f.cls,
    f.parameter]

/-- The bytes of a frame of the node's own (R165, R166). -/
def contentBytes (source : Addr) : Content → List Byte
  | .weather f => frameOf .weather source (weatherBytes f)
  | .claim f => frameOf .claim source (claimBytes f)
  | .release f => frameOf .release source (releaseBytes f)
  | .report f => frameOf .report source (stateBytes f)
  | .order action f => frameOf .order source (orderBytes action f)

/-- The command of an ORDER frame, by its action code (R168, R66, R68). -/
def orderCommand (source : Addr) (action : Byte) (f : OrderFields) : Instr :=
  match action.toNat with
  | 1 => .orderClose source f
  | 2 => .orderOpen source f
  | 3 => .orderStop source f
  | 4 => .orderShutFor source f
  | 5 => .orderUnlatch source f
  | 6 => .orderResetFault source f
  | _ => .orderUnknownAction source action f

/-- The command of an accepted frame, by its kind (R159) and the layout of its payload (R166). -/
def payloadCommand (kind : FrameKind) (source : Addr) (p : List Byte) : Instr :=
  match kind with
  | .weather => .weatherFrame source
      { sequence := p.getD 0 0, rain := p.getD 1 0, flags := p.getD 2 0, amount := fieldHalf p 3
        gust := fieldHalf p 5, mean := fieldHalf p 7, direction := p.getD 9 0, cause := p.getD 10 0 }
  | .claim => .claimFrame source
      { segment := p.getD 0 0, channel := p.getD 1 0, cls := p.getD 2 0, token := p.getD 3 0
        estimate := p.getD 4 0, capacity := p.getD 5 0, renew := p.getD 6 0 }
  | .release => .releaseFrame source
      { segment := p.getD 0 0, channel := p.getD 1 0, token := p.getD 2 0, outcome := p.getD 3 0 }
  | .report => .stateFrame source p
  | .order => orderCommand source (p.getD 4 0)
      { zoneCode := fieldHalf p 0, zoneMask := fieldHalf p 2, cls := p.getD 5 0
        parameter := p.getD 6 0 }
  | .configData => .configData source (p.getD 0 0) (p.getD 1 0) (p.drop 2)
  | .configCommit => .configCommit source (p.getD 0 0) (fieldHalf p 1)

/-- The check of a received frame (R157): the command of the frame where it passes, none where it is
discarded. -/
def checkFrame (bytes : List Byte) : Option Instr :=
  match bytes with
  | sync :: kindByte :: source :: len :: rest =>
    if sync ≠ syncByte then none
    else
      match FrameKind.ofCode kindByte with
      | none => none
      | some kind =>
        let payload := rest.take kind.length
        let body := kindByte :: source :: len :: payload
        let address : Addr := source.extractLsb' 0 6
        if len.toNat ≠ kind.length then none
        else if rest.length ≠ kind.length + 2 then none
        else if rest.drop kind.length ≠ [hiByte (crc16 body), loByte (crc16 body)] then none
        else if !address.isStation then none
        else some (payloadCommand kind address payload)
  | _ => none

/-- The source address a frame command carries. -/
def commandSource : Instr → Option Addr
  | .weatherFrame a _ => some a
  | .orderClose a _ => some a
  | .orderOpen a _ => some a
  | .orderStop a _ => some a
  | .orderShutFor a _ => some a
  | .orderUnlatch a _ => some a
  | .orderResetFault a _ => some a
  | .orderUnknownAction a _ _ => some a
  | .claimFrame a _ => some a
  | .releaseFrame a _ => some a
  | .stateFrame a _ => some a
  | .configData a _ _ _ => some a
  | .configCommit a _ _ => some a
  | _ => none

/-- What an accepted frame that is not the node's own is to the node: an address conflict when its
source is the node's own address, otherwise the command of its kind (R158, R159). -/
def acceptedCommand (own : Addr) (i : Instr) : Instr :=
  if commandSource i = some own then .addressConflict else i

end Sys2Proof.Machine
end

