-- ==== Sys2Proof/Machine/Flags.lean ====
section
/-! DEFINITION. Conditions and flags read from the state: which blocks are active (R186), isolated
operation (R140), what is energised (R79), the STATE frame's fields (R171, R176) and the status output's
condition (R179). -/

namespace Sys2Proof.Machine

open Sys2Proof

/-- The configuration block has been loaded (R185). -/
def State.loaded (s : State) : Bool := s.phase == .listenIn || s.phase == .running

/-- The role in effect; strap code 3 is taken as DRIVE (R181). -/
def State.role (s : State) : Role :=
  match s.straps.roleCode.toNat with
  | 1 => .sense
  | 2 => .both
  | _ => .drive

/-- SRC, THR, REQ, RSU and DCH are active (R186). -/
def State.driveActive (s : State) : Bool := s.loaded && s.role != .sense

/-- The channel is present in an active node (R38, R55, R77). -/
def State.present (s : State) (c : Chan) : Bool :=
  s.driveActive && (c == .c0 || s.config.ch1Present)

/-- WXI is active (R186; 01, introduction). -/
def State.wxiActive (s : State) : Bool :=
  s.loaded && (s.role != .drive || s.config.sources.any (fun x => x.address == 0))

/-- The node originates WEATHER frames (R186). -/
def State.publishes (s : State) : Bool := s.wxiActive && s.role != .drive

/-- The strapped address is one under which the node transmits, 1..62 (R162). -/
def State.validAddress (s : State) : Bool := s.straps.address.isStation

/-- The line state is ISOLATED (R160). -/
def State.lineIsolated (s : State) : Bool := s.lin.giveUp || s.lin.stuck || s.lin.conflict

/-- The node is in isolated operation (R140). -/
def State.isolated (s : State) : Bool :=
  s.lineIsolated || s.config.segment == 0 || !s.validAddress

/-- The settings of a channel. -/
def State.setting (s : State) (c : Chan) : ChanSettings := s.config.ch.get c

/-- The Drive Channel record of a channel. -/
def State.chan (s : State) (c : Chan) : Channel := s.dch.get c

/-- The claim record of a channel. -/
def State.claim (s : State) (c : Chan) : ClaimRecord := s.rsu.claims.get c

/-- The channel's held level as THR gives it. -/
def State.held (s : State) (c : Chan) : Level := (s.thr.get c).held

/-- The input levels of a channel. -/
def State.pin (s : State) (c : Chan) : ChanPins := s.pins.ch.get c

/-- The channel's motor driver is energised (R79). -/
def State.energised (s : State) (c : Chan) : Bool := (s.chan c).runState.energised

/-- A timer runs, and its moment has come. An expiry command acts only then (log 2). -/
def State.dueAt (s : State) (t : Option Nat) : Bool :=
  match t with
  | some m => decide (m ≤ s.now)
  | none => false

/-- The stale timer of a LIVE entry has run out (R26). -/
def State.stale (s : State) (e : SourceEntry) : Bool :=
  s.driveActive && e.status == .live && s.dueAt (e.acceptedAt.map (· + s.config.tStale * 1000))

/-- The overrun clock has reached twice the claimed estimate while the driver is energised (R94). -/
def State.overrunDue (s : State) (c : Chan) : Bool :=
  s.energised c && (match (s.chan c).estimate with
    | some e => decide (2000 * e ≤ (s.chan c).overrunMs)
    | none => false)

/-- The threshold of the over-current comparator (R113). -/
def State.overcurrentThreshold (s : State) (c : Chan) : Nat :=
  min 255 ((s.setting c).overcurrent + (s.chan c).calOffset)

/-- The over-current comparator is active: the sensed current is above the threshold, and at a threshold
of 0 any current is (R113; DEDUCED, log 15). -/
def State.comparatorActive (s : State) (c : Chan) : Bool :=
  s.overcurrentThreshold c == 0 || s.overcurrentThreshold c < (s.pin c).sensed

/-- The claim state that a grant gave is in force, and in LOCAL the other channel is not energised
(R79, R116). -/
def State.slotInForce (s : State) (c : Chan) : Bool :=
  (s.claim c).state == .held
    || ((s.claim c).state == .localRun && !s.energised (chanOther c))

/-- The start ramp's duty in percent: 25 at entry, 100 when the ramp time has passed, in proportion to
time between; 100 in DRIVING and BACKOFF, 0 with the driver off (R79, R89). The rule gives no resolution:
DESIGN CHOICE, whole percents, a fraction rounded up (log 42). -/
def State.duty (s : State) (c : Chan) : Nat :=
  match (s.chan c).runState with
  | .starting =>
    match (s.chan c).rampEnd with
    | some e => 100 - 75 * (e - s.now) / (s.setting c).ramp
    | none => 100
  | .driving => 100
  | .backoff => 100
  | _ => 0

/-- The position as a percentage of L, halves up, or 255 while UNKNOWN (R82). -/
def Channel.percent (ch : Channel) (travel : Nat) : Nat :=
  if ch.known then (200 * ch.position + travel) / (2 * travel) else 255

/-- A bit of a flags byte. -/
def flagBit (b : Bool) (k : Nat) : Nat := if b then 2 ^ k else 0

/-- The node flags of the STATE frame (R171). -/
def State.nodeFlags (s : State) : Nat :=
  flagBit s.lineIsolated 0 + flagBit s.lin.conflict 1 + flagBit s.pins.keyLocal 2
    + flagBit s.configFault 3 + flagBit s.rsu.mismatch 4 + flagBit s.straps.commissioning 5

/-- The record of a channel that is not present (R171). -/
def absentRecord : StateRecord where
  position := 255
  runState := 0
  held := 0
  flags := 0
  fault := 0
  lastEnd := 0
  failures := 0

/-- A channel's record of the STATE frame (R171, R176). -/
def State.stateRecord (s : State) (c : Chan) : StateRecord :=
  if s.present c then
    { position := BitVec.ofNat 8 ((s.chan c).percent (s.setting c).travel)
      runState := BitVec.ofNat 8 (s.chan c).runState.code
      held := BitVec.ofNat 8 (s.held c).rank
      flags := BitVec.ofNat 8 (1 + flagBit (s.thr.get c).latch 1)
      fault := BitVec.ofNat 8 (s.chan c).fault.code
      lastEnd := BitVec.ofNat 8 (s.chan c).lastEnd.code
      failures := BitVec.ofNat 8 (s.chan c).failures }
  else absentRecord

/-- The content of a STATE frame, as the blocks stand now (R176). -/
def State.stateFields (s : State) : StateFields where
  role := BitVec.ofNat 8 s.role.code
  picture := BitVec.ofNat 8 s.src.picture.status.code
  nodeFlags := BitVec.ofNat 8 s.nodeFlags
  commit := BitVec.ofNat 8 s.rep.outcome.code
  ch0 := s.stateRecord .c0
  ch1 := s.stateRecord .c1

/-- The position is KNOWN, the counter 0 and the closed limit active (R179 ALL_CLOSED; R61 CLOSE). -/
def State.closedOnLimit (s : State) (c : Chan) : Bool :=
  (s.chan c).known && (s.chan c).position == 0 && (s.pin c).closedLimit

/-- The condition of the selected status output source (R179). -/
def State.outputCondition (s : State) : Bool :=
  match s.config.outSource with
  | .heldClose => (s.present .c0 && (s.held .c0).shut) || (s.present .c1 && (s.held .c1).shut)
  | .notValid => s.src.picture.status != .valid
  | .fault => (s.present .c0 && (s.chan .c0).runState == .fault)
      || (s.present .c1 && (s.chan .c1).runState == .fault)
  | .allClosed => s.present .c0 && s.closedOnLimit .c0 && (!s.present .c1 || s.closedOnLimit .c1)
  | .line => s.lineIsolated || s.lin.conflict || !s.validAddress
  | .localRain => s.wxi.rain == .rain
  | .low => false
  | .high => true

/-- The level of the status output, true for released: before the load released; LOW and HIGH set the
level directly; otherwise the condition and the polarity (R179, R180). -/
def State.outputLevel (s : State) : Bool :=
  if !s.loaded then true
  else
    match s.config.outSource with
    | .low => false
    | .high => true
    | _ =>
      match s.config.outPolarity with
      | .activeLow => !s.outputCondition
      | .activeHigh => s.outputCondition

end Sys2Proof.Machine
end

