-- ==== Sys2Proof/Machine/Ops.lean ====
section
/-! DEFINITION. Operations shared by the blocks: the updates of the state, the signals the blocks pass to
one another, the transmit queue (08_the_node_line.md R151 to R155), the requests for STATE frames (R175)
and WXI's publication requests (R17). -/

namespace Sys2Proof.Machine

open Sys2Proof

/-! ### Updates of the state -/

/-- Replace a channel's Drive Channel record. -/
def State.setChan (s : State) (c : Chan) (ch : Channel) : State := { s with dch := s.dch.set c ch }

/-- Replace a channel's claim record. -/
def State.setClaim (s : State) (c : Chan) (r : ClaimRecord) : State :=
  { s with rsu := { s.rsu with claims := s.rsu.claims.set c r } }

/-- Replace a channel's request table. -/
def State.setTable (s : State) (c : Chan) (t : ReqTable) : State :=
  { s with req := { s.req with table := s.req.table.set c t } }

/-- Replace the Line Interface. -/
def State.setLin (s : State) (l : Lin) : State := { s with lin := l }

/-- Replace the Weather Inputs. -/
def State.setWxi (s : State) (w : Wxi) : State := { s with wxi := w }

/-- Replace a channel's threat record. -/
def State.setThr (s : State) (c : Chan) (t : Threat) : State := { s with thr := s.thr.set c t }

/-- Replace the Source Table and Picture. -/
def State.setSrc (s : State) (x : Src) : State := { s with src := x }

/-- Replace the run table. -/
def State.setRuns (s : State) (l : List RunEntry) : State := { s with rsu := { s.rsu with table := l } }

/-- Replace the token counter. -/
def State.setToken (s : State) (k : Nat) : State := { s with rsu := { s.rsu with tokenCounter := k } }

/-- Replace a channel's input levels. -/
def State.setPin (s : State) (c : Chan) (p : ChanPins) : State :=
  { s with pins := { s.pins with ch := s.pins.ch.set c p } }

/-! ### Signals between the blocks -/

/-- A signal from one block to another, worked off within the command that raised it
(95_what_each_step_holds.md). -/
inductive Signal where
  /-- The Drive Channel reports to the Request Table (R82). -/
  | report (c : Chan)
  /-- The Request Table selects; `touched` are the origins whose entry was written afresh or clamped (R59). -/
  | select (c : Chan) (touched : List Origin)
  /-- The Request Table selects for a channel that the held level has just stopped: its hand-over starts nothing
  new while the stopped run or wait is still there (R99; log 25). -/
  | selectStored (c : Chan) (touched : List Origin)
  /-- The Request Table hands over the effective request (R83). -/
  | handOver (c : Chan) (h : Option Standing)
  /-- A channel in IDLE acts on its standing request (R84). -/
  | decide (c : Chan)
  /-- A channel in WAIT_SLOT wishes for a slot (R131, R141). -/
  | wish (c : Chan)
  /-- The Run Slot Unit considers the node's LOCAL slot (R141). -/
  | localSlot
  /-- The Run Slot Unit grants HELD or LOCAL (R88). -/
  | granted (c : Chan)
  /-- The held level is CLOSE or SEVERE: a channel in WAIT_SLOT gives up an opening (R99). -/
  | barred (c : Chan)
  deriving DecidableEq, Repr

/-- A new state and the signals raised on the way to it, in order. -/
abbrev Eff := State × List Signal

/-- Go on with a further operation, its signals after those already raised. -/
def Eff.andThen (e : Eff) (f : State → Eff) : Eff := ((f e.1).1, e.2 ++ (f e.1).2)

/-! ### The transmit queue -/

/-- The slot of a place (R151). -/
def TxQueue.get (q : TxQueue) (p : Place) : TxSlot :=
  match p with
  | .claim c => q.claim.get c
  | .release c => q.release.get c
  | .weather => q.weather
  | .report => q.report
  | .order => q.order

/-- Replace the slot of a place. -/
def TxQueue.put (q : TxQueue) (p : Place) (x : TxSlot) : TxQueue :=
  match p with
  | .claim c => { q with claim := q.claim.set c x }
  | .release c => { q with release := q.release.set c x }
  | .weather => { q with weather := x }
  | .report => { q with report := x }
  | .order => { q with order := x }

/-- Replace the slot of a place of the Line Interface. -/
def Lin.put (l : Lin) (p : Place) (x : TxSlot) : Lin := { l with queue := l.queue.put p x }

/-- The token and renew flag of a queued CLAIM (R153). -/
def claimTag (content : Option Content) : Option (Byte × Bool) :=
  match content with
  | some (.claim f) => some (f.token, f.renew != 0)
  | _ => none

/-- The token of a queued RELEASE. -/
def releaseToken (content : Option Content) : Option Byte :=
  match content with
  | some (.release f) => some f.token
  | _ => none

/-- A frame enters an empty place: attempt count 0 and the present moment as its age (R151). -/
def Lin.enter (l : Lin) (p : Place) (r : TxRequest) : Lin :=
  { l.put p { (l.queue.get p) with
      frame := some { urgent := r.urgent, attempts := 0, age := l.ages, content := r.content } } with
    ages := l.ages + 1 }

/-- A request waits as the place's successor: a later one replaces it and keeps the higher class of the
two (R154). -/
def Lin.putSuccessor (l : Lin) (p : Place) (r : TxRequest) : Lin :=
  let urgent := match (l.queue.get p).successor with
    | some old => old.urgent || r.urgent
    | none => r.urgent
  l.put p { (l.queue.get p) with successor := some { r with urgent := urgent } }

/-- A request to queue a WEATHER, STATE, ORDER or CLAIM frame (R152, R153): it enters an empty place,
replaces a frame with no attempt in progress at its attempt count and age and at the higher class, or
waits as the successor. -/
def Lin.request (l : Lin) (p : Place) (r : TxRequest) : Lin :=
  match (l.queue.get p).frame with
  | none => l.enter p r
  | some f =>
    if l.attempt = some p then l.putSuccessor p r
    else l.put p { (l.queue.get p) with
        frame := some { f with urgent := f.urgent || r.urgent, content := r.content } }

/-- The frame of a CLAIM place leaves it, and its successor enters (R154). -/
def Lin.leaveClaim (l : Lin) (c : Chan) : Lin :=
  let x := l.queue.get (.claim c)
  let l' := { l.put (.claim c) { frame := none, successor := none } with
    attempt := if l.attempt = some (.claim c) then none else l.attempt }
  match x.successor with
  | none => l'
  | some r => l'.enter (.claim c) r

/-- A waiting renewal of the same token is dropped when its claim is released: R133 and R139 say that an
unsent renewing CLAIM is removed (DEDUCED, log 20). -/
def Lin.dropRenewal (l : Lin) (c : Chan) (token : Option Byte) : Lin :=
  let x := l.queue.get (.claim c)
  match x.successor with
  | none => l
  | some r =>
    if token.isSome ∧ claimTag r.content = token.map (fun t => (t, true)) then
      l.put (.claim c) { x with successor := none }
    else l

/-- A RELEASE enters its place, or waits behind the RELEASE there (R153, last case). -/
def Lin.enterRelease (l : Lin) (c : Chan) (r : TxRequest) : Lin :=
  match (l.queue.get (.release c)).frame with
  | none => l.enter (.release c) r
  | some _ => l.putSuccessor (.release c) r

/-- A request to queue a RELEASE (R153): against an unsent CLAIM of its token it cancels both; an unsent
renewal of its token is removed and the RELEASE queued. -/
def Lin.requestRelease (l : Lin) (c : Chan) (r : TxRequest) : Lin :=
  let l := l.dropRenewal c (releaseToken r.content)
  match (l.queue.get (.claim c)).frame with
  | none => l.enterRelease c r
  | some f =>
    match claimTag f.content with
    | none => l.enterRelease c r
    | some (token, renewing) =>
      if l.attempt = some (.claim c) ∨ releaseToken r.content ≠ some token then l.enterRelease c r
      else if renewing then (l.leaveClaim c).enterRelease c r
      else l.leaveClaim c

/-- The frame of a place leaves it by completion, give-up or removal, and its successor enters as a newly
queued frame; a RELEASE successor is subject to the cancellation cases when it enters (R154). -/
def Lin.leave (l : Lin) (p : Place) : Lin :=
  match p with
  | .claim c => l.leaveClaim c
  | _ =>
    let x := l.queue.get p
    let l' := { l.put p { frame := none, successor := none } with
      attempt := if l.attempt = some p then none else l.attempt }
    match x.successor with
    | none => l'
    | some r =>
      match p with
      | .release c => l'.requestRelease c r
      | _ => l'.enter p r

/-- A place's frame and successor are removed together (R154, last sentence; R155). -/
def Lin.purge (l : Lin) (p : Place) : Lin :=
  { l.put p { frame := none, successor := none } with
    attempt := if l.attempt = some p then none else l.attempt }

/-- A waiting successor is applied to its place as if requested now; behind a RELEASE it keeps waiting
(R154). -/
def Lin.applySuccessor (l : Lin) (p : Place) : Lin :=
  let x := l.queue.get p
  match p, x.successor with
  | .release _, _ => l
  | _, none => l
  | _, some r => (l.put p { x with successor := none }).request p r

/-- After the collision of a CLAIM, a RELEASE of the same token in its place cancels it: both leave, or the
renewal alone (R153, end). -/
def Lin.cancelPair (l : Lin) (c : Chan) : Lin :=
  match (l.queue.get (.claim c)).frame, (l.queue.get (.release c)).frame with
  | some f, some g =>
    match claimTag f.content with
    | none => l
    | some (token, renewing) =>
      if releaseToken g.content ≠ some token then l
      else if renewing then l.leaveClaim c
      else (l.leaveClaim c).leave (.release c)
  | _, _ => l

/-- The seven places. -/
def allPlaces : List Place :=
  [.claim .c0, .claim .c1, .release .c0, .release .c1, .weather, .report, .order]

/-- A frame stands before another: URGENT before ROUTINE, the older first within one class (R151). -/
def TxFrame.before (f g : TxFrame) : Bool :=
  if f.urgent == g.urgent then f.age < g.age else f.urgent

/-- The better placed of two optional heads. -/
def betterHead (a b : Option (Place × TxFrame)) : Option (Place × TxFrame) :=
  match a, b with
  | none, _ => b
  | _, none => a
  | some x, some y => if y.2.before x.2 then some y else some x

/-- The head of the transmit queue: the first frame in the order of R151. -/
def Lin.head (l : Lin) : Option (Place × TxFrame) :=
  allPlaces.foldl
    (fun best p => betterHead best ((l.queue.get p).frame.map (fun f => (p, f)))) none

/-- The slot of a frame at a node address (R148). -/
def headSlot (a : Addr) (f : TxFrame) : Nat :=
  if f.urgent then (a.toNat + f.attempts) % 8 else 8 + (a.toNat + f.attempts) % 16

/-! ### Requests to queue frames -/

/-- The Line Interface queues a WEATHER, STATE, ORDER or CLAIM frame; with the conflict flag set it
refuses (R162). -/
def State.queue (s : State) (p : Place) (r : TxRequest) : State :=
  if s.lin.conflict then s else s.setLin (s.lin.request p r)

/-- The Line Interface queues a RELEASE frame; with the conflict flag set it refuses (R162). -/
def State.queueRelease (s : State) (c : Chan) (r : TxRequest) : State :=
  if s.lin.conflict then s else s.setLin (s.lin.requestRelease c r)

/-- The reporting functions ask for a STATE frame of class ROUTINE; before the load they ask for none
(R174, R175). -/
def State.requestReport (s : State) : State :=
  if s.loaded then s.queue .report { urgent := false, content := none } else s

/-- The status output takes the level its condition calls for (R180). -/
def State.settle (s : State) : State := { s with rep := { s.rep with released := s.outputLevel } }

/-! ### Publication requests of WXI -/

/-- The merge rule for causes (R17): an event cause replaces PERIODIC, PERIODIC does not replace an event
cause, and of two event causes the later stands. -/
def mergeCause (old : Option Cause) (new : Cause) : Cause :=
  match old, new with
  | some .rainChange, .periodic => .rainChange
  | some .gustLevel, .periodic => .gustLevel
  | _, _ => new

/-- A publication request (R17). With the conflict flag set the frame is refused and WXI returns to IDLE
(R162). -/
def State.publish (s : State) (urgent : Bool) (cause : Cause) : State :=
  if !s.publishes then s
  else
    match s.wxi.pub with
    | .idle =>
      if s.lin.conflict then s
      else (s.setWxi { s.wxi with pub := .queued, cause := some cause }).queue .weather
        { urgent := urgent, content := none }
    | .queued =>
      if s.lin.conflict then s.setWxi { s.wxi with pub := .idle, cause := none }
      else (s.setWxi { s.wxi with cause := some (mergeCause s.wxi.cause cause) }).queue .weather
        { urgent := urgent, content := none }
    | .sending =>
      s.setWxi { s.wxi with deferred :=
        match s.wxi.deferred with
        | none => some (urgent, cause)
        | some (u, old) => some (u || urgent, mergeCause (some old) cause) }

/-- WXI's frame has completed, was given up or was removed: WXI returns to IDLE and hands over a deferred
request (R17). -/
def State.weatherFrameEnd (s : State) : State :=
  let s' := s.setWxi { s.wxi with pub := .idle, cause := none, deferred := none }
  match s.wxi.deferred with
  | none => s'
  | some (urgent, cause) => s'.publish urgent cause

end Sys2Proof.Machine
end

