-- ==== Sys2Proof/Machine/Slots.lean ====
section
/-! DEFINITION. The Run Slot Unit (07_run_slots_on_a_supply_segment.md R124 to R145): the run table, the
claims, renewal, release and isolated operation. What it does to a Drive Channel's run (a yield) is in
Sys2Proof/Machine/Drive.lean. -/

namespace Sys2Proof.Machine

open Sys2Proof

/-! ### The run table -/

/-- An entry of a node and channel. -/
def RunEntry.isFor (e : RunEntry) (node : Nat) (c : Chan) : Bool := e.node == node && e.chan == c

/-- Order of eviction: earliest expiry, then lowest node, then lower channel (R127). -/
def RunEntry.evictedBefore (a b : RunEntry) : Bool :=
  if a.expiry = b.expiry then
    if a.node = b.node then chanNat a.chan < chanNat b.chan else a.node < b.node
  else a.expiry < b.expiry

/-- The entry a full table evicts (R127). -/
def evictee (t : List RunEntry) : Option RunEntry :=
  match t with
  | [] => none
  | e :: rest =>
    match evictee rest with
    | none => some e
    | some x => if x.evictedBefore e then some x else some e

/-- Insert an entry; a table of 16 first loses its evictee (R127). -/
def insertEntry (t : List RunEntry) (e : RunEntry) : List RunEntry :=
  if t.length < 16 then t ++ [e]
  else
    match evictee t with
    | none => [e]
    | some x => t.erase x ++ [e]

/-- A CLAIM taken into the table at the moment `now` (R127). -/
def takeEntry (t : List RunEntry) (node : Nat) (c : Chan) (cls : Class) (token estimate : Nat)
    (renew : Bool) (now : Nat) : List RunEntry :=
  let expiry := now + (2 * estimate + 5) * 1000
  if t.any (fun e => e.isFor node c) then
    t.map (fun e =>
      if e.isFor node c then
        { e with cls := cls, token := token, estimate := estimate
                 arrival := if renew then e.arrival else now
                 settled := renew, expiry := expiry }
      else e)
  else
    insertEntry t { node := node, chan := c, cls := cls, token := token, estimate := estimate
                    arrival := now, settled := renew, expiry := expiry }

/-- A RELEASE removes the entry whose node, channel and token all match (R128). -/
def dropEntry (t : List RunEntry) (node : Nat) (channel token : Nat) : List RunEntry :=
  t.filter (fun e => !(e.node == node && chanNat e.chan == channel && e.token == token))

/-- An entry ranks better than the claim of a node, channel and class (R129). -/
def RunEntry.ranksBetter (e : RunEntry) (node : Nat) (c : Chan) (cls : Class) : Bool :=
  if e.cls = cls then
    if e.node = node then chanNat e.chan < chanNat c else e.node < node
  else cls.rank < e.cls.rank

/-- A non-contending entry, against a completion moment (R134). -/
def RunEntry.nonContending (e : RunEntry) (completion : Nat) : Bool :=
  e.settled || e.arrival + 250 < completion

/-- The capacity a CLAIM carries, as read: 0 as 1, above 4 as 4 (R125). -/
def readCapacity (n : Nat) : Nat := clamp 1 4 n

/-- The capacity carried in a CLAIM taken acts on the working capacity and the mismatch flag (R125). -/
def State.noteCapacity (s : State) (carried : Nat) : State :=
  { s with rsu := { s.rsu with
      working := min s.rsu.working (readCapacity carried)
      mismatch := s.rsu.mismatch || readCapacity carried != s.config.capacity } }

/-- RSU is active and belongs to a segment, so that it takes CLAIMs and RELEASEs (R124). -/
def State.rsuListens (s : State) : Bool := s.driveActive && s.config.segment != 0

/-! ### Claims -/

/-- The current values of a claim; before any hand-over, SERVICE at 1 s, which no claim carries. -/
def ClaimRecord.vals (r : ClaimRecord) : ClaimVals := r.current.getD { cls := .service, estimate := 1 }

/-- The CLAIM frame of a claim (R131, R137, R170). -/
def State.claimFields (s : State) (c : Chan) (token : Nat) (v : ClaimVals) (renew : Bool) :
    ClaimFields where
  segment := BitVec.ofNat 8 s.config.segment
  channel := BitVec.ofNat 8 (chanNat c)
  cls := BitVec.ofNat 8 v.cls.rank
  token := BitVec.ofNat 8 token
  estimate := BitVec.ofNat 8 v.estimate
  capacity := BitVec.ofNat 8 s.config.capacity
  renew := if renew then 1 else 0

/-- Queue the CLAIM of a claim, class URGENT (R131, R137). -/
def State.queueClaim (s : State) (c : Chan) (token : Nat) (v : ClaimVals) (renew : Bool) : State :=
  s.queue (.claim c) { urgent := true, content := some (.claim (s.claimFields c token v renew)) }

/-- Queue a RELEASE, class URGENT (R133, R135, R138, R139, R170). -/
def State.sendRelease (s : State) (c : Chan) (token : Nat) (o : ReleaseOutcome) : State :=
  s.queueRelease c { urgent := true, content := some (.release
    { segment := BitVec.ofNat 8 s.config.segment, channel := BitVec.ofNat 8 (chanNat c)
      token := BitVec.ofNat 8 token, outcome := BitVec.ofNat 8 o.code }) }

/-- The channel is in WAIT_SLOT with its claim at NONE. -/
def State.wishing (s : State) (c : Chan) : Bool :=
  s.present c && (s.chan c).runState == .waitSlot && (s.claim c).state == .none

/-- The next token of the node's counter (R130). -/
def State.nextToken (s : State) : Nat := (s.rsu.tokenCounter + 1) % 256

/-- A CLAIM with the token has gone out, or is announced at once by R142. -/
def ClaimRecord.hear (r : ClaimRecord) (token : Nat) : ClaimRecord :=
  { r with heard := if token ∈ r.heard then r.heard else token :: r.heard }

/-- Make a claim (R131): a new token, of which nothing is heard yet, the current values announced, a CLAIM
queued, CLAIMING. -/
def State.makeClaim (s : State) (c : Chan) : State :=
  let r := s.claim c
  let s1 := s.setToken s.nextToken
  (s1.setClaim c { r with
    state := .claiming, token := s.nextToken, announcedVals := some r.vals, announced := false
    heard := r.heard.erase s.nextToken, completion := none, window := none, stagger := none, retry := none }).queueClaim c s.nextToken
      r.vals false

/-- The claim is made where R131 allows it: WAIT_SLOT, claim NONE, listen-in ended, not isolated. -/
def State.claimIfDue (s : State) (c : Chan) : State :=
  if s.phase == .running && !s.isolated && s.wishing c then s.makeClaim c else s

/-- New values from the Drive Channel in WAIT_SLOT (R132). -/
def State.updateClaim (s : State) (c : Chan) (v : ClaimVals) : State :=
  let r := s.claim c
  let unsent := r.state == .claiming && !r.announced
    && !(s.lin.attempt == some (.claim c)
      && ((s.lin.queue.get (.claim c)).frame.bind (fun f => claimTag f.content)).map Prod.fst
          == some (BitVec.ofNat 8 r.token))
  if unsent then
    (s.setClaim c { r with current := some v, announcedVals := some v }).queueClaim c r.token v false
  else s.setClaim c { r with current := some v }

/-- The claim is withdrawn: the channel leaves WAIT_SLOT without a grant (R133). An unsent CLAIM is
cancelled against the RELEASE in the queue (R153). -/
def State.withdrawClaim (s : State) (c : Chan) : State :=
  let r := s.claim c
  match r.state with
  | .none => s
  | .claiming =>
    (s.setClaim c { r with state := .none, window := none }).sendRelease c r.token .withdrawn
  | .waiting => s.setClaim c { r with state := .none, stagger := none, retry := none }
  | .held => s
  | .localRun => s

/-- A renewal asked for by the Drive Channel (R137): queued under HELD, owed in isolated operation (R140),
announced to nobody under LOCAL (R141), dropped when the slot is gone (R144). -/
def State.renewClaim (s : State) (c : Chan) (v : ClaimVals) : State :=
  let r := s.claim c
  match r.state with
  | .held =>
    if s.isolated then
      s.setClaim c { r with current := some v, announcedVals := some v, owedRenewal := true }
    else
      (s.setClaim c { r with current := some v, announcedVals := some v }).queueClaim c r.token v true
  | .localRun => s.setClaim c { r with current := some v, announcedVals := some v }
  | .none => s
  | .claiming => s
  | .waiting => s

/-- The release outcome of an end cause (R139); YIELDED has none, its slot was released at the yield. -/
def EndCause.release : EndCause → Option ReleaseOutcome
  | .done => some .done
  | .stopped => some .stopped
  | .positionLost => some .stopped
  | .fault => some .fault
  | .supply => some .supply
  | .yielded => none

/-- RSU gives up the slot a HELD claim holds, with an outcome: a RELEASE is queued, or owed in isolated
operation (R138, R139, R140). -/
def State.releaseHeld (s : State) (c : Chan) (o : ReleaseOutcome) : State :=
  let r := s.claim c
  if s.isolated then
    s.setClaim c { r with state := .none, owedRelease := some (r.token, o), owedRenewal := false }
  else s.sendRelease c r.token o

/-- RSU takes the end cause of a run (R139, R140, R141): the claim state becomes NONE. -/
def State.releaseSlot (s : State) (c : Chan) (cause : EndCause) : State :=
  let r := s.claim c
  let s' := match r.state, cause.release with
    | .held, some o => s.releaseHeld c o
    | _, _ => s
  s'.setClaim c { s'.claim c with state := .none, window := none }

/-! ### The claim window -/

/-- The entry is that of the node's other channel while its claim state is HELD, which is counted as one slot
by itself (R134). -/
def State.isHeldOther (s : State) (c : Chan) (e : RunEntry) : Bool :=
  e.isFor s.straps.address.toNat (chanOther c) && (s.claim (chanOther c)).state == .held

/-- The slot of the node's other channel, counted while its claim state is HELD whether or not its entry
stands in the table (R134). -/
def State.heldOther (s : State) (c : Chan) : Nat :=
  if (s.claim (chanOther c)).state == .held then 1 else 0

/-- The entry of the table counts as an occupied slot at the window end of channel `c`'s claim (R134). -/
def State.countsAtWindow (s : State) (c : Chan) (e : RunEntry) : Bool :=
  let own := s.straps.address.toNat
  let r := s.claim c
  if e.isFor own c then false
  else if s.isHeldOther c e then false
  else
    e.nonContending (r.completion.getD 0)
      || e.ranksBetter own c ((r.announcedVals.getD r.vals).cls)

/-- The slots occupied by claims other than the channel's own at its window end (R134). -/
def State.occupied (s : State) (c : Chan) : Nat :=
  (s.rsu.table.filter (s.countsAtWindow c)).length + s.heldOther c

/-- The slots counted at a stagger end: as at the window end, but with every entry counted (R136). -/
def State.others (s : State) (c : Chan) : Nat :=
  (s.rsu.table.filter (fun e => !e.isFor s.straps.address.toNat c && !s.isHeldOther c e)).length
    + s.heldOther c

/-- A RELEASE heard for the segment starts the stagger timer of a WAITING claim, unless it runs (R136). -/
def State.startStagger (s : State) (c : Chan) : State :=
  let r := s.claim c
  let due := s.now + ((4 - r.vals.cls.rank) * 100 + s.straps.address.toNat * 5)
  if r.state == .waiting && r.stagger.isNone then s.setClaim c { r with stagger := some due }
  else s

/-! ### Isolated operation -/

/-- The channel holds neither HELD nor LOCAL. -/
def State.holdsNone (s : State) (c : Chan) : Bool :=
  (s.claim c).state != .held && (s.claim c).state != .localRun

/-- The channel that RSU grants LOCAL, if any (R141). -/
def State.localGrantee (s : State) : Option Chan :=
  let w0 := s.wishing .c0 && s.holdsNone .c1
  let w1 := s.wishing .c1 && s.holdsNone .c0
  if !(s.isolated && s.phase == .running) then none
  else if w0 && w1 then
    if (s.claim .c0).vals.cls.rank < (s.claim .c1).vals.cls.rank then some .c1 else some .c0
  else if w0 then some .c0
  else if w1 then some .c1
  else none

/-- The outcome a code names; another code is taken as DONE, and the node queues none (R168). -/
def outcomeOfCode (n : Nat) : ReleaseOutcome :=
  match n with
  | 1 => .stopped | 2 => .fault | 3 => .supply | 4 => .yielded | 5 => .withdrawn | _ => .done

/-- The claim of a token was announced: its CLAIM has gone out (R140, R143; log 21). -/
def ClaimRecord.wasAnnounced (r : ClaimRecord) (token : Byte) : Bool := decide (token.toNat ∈ r.heard)

/-- RSU records what a frame that left the queue unsent would have told the segment (R140, R143). -/
def ClaimRecord.owe (r : ClaimRecord) (content : Option Content) : ClaimRecord :=
  match content with
  | some (.release f) =>
    if r.wasAnnounced f.token then
      { r with owedRelease := some (f.token.toNat, outcomeOfCode f.outcome.toNat) }
    else r
  | some (.claim f) => if f.renew != 0 then { r with owedRenewal := true } else r
  | _ => r

/-- What a place of a channel holds is recorded as owed, its frame before its successor. -/
def ClaimRecord.owePlace (r : ClaimRecord) (x : TxSlot) : ClaimRecord :=
  (r.owe (x.frame.bind TxFrame.content)).owe (x.successor.bind TxRequest.content)

/-- The Line Interface removes every CLAIM and RELEASE of a channel, and RSU records them (R140, R143,
R155). -/
def State.removeClaims (s : State) (c : Chan) : State :=
  let q := s.lin.queue
  (s.setClaim c (((s.claim c).owePlace (q.get (.claim c))).owePlace (q.get (.release c)))).setLin
    ((s.lin.purge (.claim c)).purge (.release c))

/-- A claim at an entry into isolated operation (R140). -/
def ClaimRecord.isolate (r : ClaimRecord) : ClaimRecord :=
  match r.state with
  | .claiming =>
    if r.announced then
      { r with state := .none, window := none, owedRelease := some (r.token, .withdrawn) }
    else { r with state := .none, window := none }
  | .waiting => { r with state := .none, stagger := none, retry := none }
  | .none => r
  | .held => r
  | .localRun => r

/-- One channel at an entry into isolated operation (R140). -/
def State.isolateChannel (s : State) (c : Chan) : State :=
  let s1 := s.removeClaims c
  s1.setClaim c (s1.claim c).isolate

/-- Entry into isolated operation (R140), channel 0 first (log 45), after which RSU considers the LOCAL slot
(R141). -/
def State.enterIsolation (s : State) : Eff :=
  if s.driveActive then ((s.isolateChannel .c0).isolateChannel .c1, [.localSlot]) else (s, [])

/-- One channel's owed release at the end of isolated operation (R142, step 1). -/
def State.sendOwedRelease (s : State) (c : Chan) : State :=
  match (s.claim c).owedRelease with
  | none => s
  | some (token, o) =>
    (s.setClaim c { s.claim c with owedRelease := none }).sendRelease c token o

/-- A LOCAL claim becomes HELD under a new token, announced by a renewing CLAIM (R142, step 2). -/
def State.holdLocal (s : State) (c : Chan) : State :=
  let r := s.claim c
  match r.state with
  | .localRun =>
    let s1 := s.setToken s.nextToken
    (s1.setClaim c { r.hear s.nextToken with
      state := .held, token := s.nextToken, announcedVals := some r.vals
      announced := true }).queueClaim c s.nextToken r.vals true
  | .none => s
  | .claiming => s
  | .waiting => s
  | .held => s

/-- A HELD claim's owed renewal is queued and cleared (R142, step 3). -/
def State.sendOwedRenewal (s : State) (c : Chan) : State :=
  let r := s.claim c
  if r.state == .held && r.owedRenewal then
    (s.setClaim c { r with owedRenewal := false, announcedVals := some r.vals }).queueClaim c r.token
      r.vals true
  else s

/-- One channel at the end of isolated operation: the four steps of R142 in order. -/
def State.resumeChannel (s : State) (c : Chan) : State :=
  if s.present c then
    (((s.sendOwedRelease c).holdLocal c).sendOwedRenewal c).claimIfDue c
  else s

/-- The end of isolated operation (R142). Which channel comes first, and so which takes the next token, the
rule leaves open: DESIGN CHOICE, channel 0 (log 43). -/
def State.endIsolation (s : State) : State := (s.resumeChannel .c0).resumeChannel .c1

/-- A change of the isolation causes, with its signals to RSU and to the reporting functions at a change
of the line state (R160, R140, R142). -/
def State.changeCauses (s : State) (f : Lin → Lin) : Eff :=
  let s1 := s.setLin (f s.lin)
  if s.lineIsolated == s1.lineIsolated then (s1, [])
  else if s1.lineIsolated then
    let e := if s.isolated then (s1, []) else s1.enterIsolation
    (e.1.requestReport, e.2)
  else
    let s2 := if s1.isolated then s1 else s1.endIsolation
    (s2.requestReport, [])

end Sys2Proof.Machine
end

