-- ==== Sys2Proof/Machine/Drive.lean ====
section
/-! DEFINITION. The Drive Channels: jobs, the course of a run, changes of request, markers, failures
(05_the_positioning_engine.md R80 to R103, 06_markers_stall_and_the_safety_edge.md R107 to R120), and the
yield that RSU makes a channel take (R100, R138). -/

namespace Sys2Proof.Machine

open Sys2Proof

/-! ### Jobs and estimates -/

/-- The distance between two positions. -/
def dist (a b : Nat) : Nat := (a - b) + (b - a)

/-- The target in pulses of an open percentage; above 100 is taken as 100 (R86). -/
def targetOf (percent travel : Nat) : Nat := min percent 100 * travel / 100

/-- The job a request calls for (R86); STOP calls for none. -/
def chooseJob (known : Bool) (travel : Nat) (a : Action) : Option Job :=
  match a with
  | .close => some .home
  | .openTo p =>
    if known then some (.seek (targetOf p travel)) else some (.homeThenSeek (targetOf p travel))
  | .stop => none

/-- The part with which a job begins (R86). -/
def Job.firstPart : Job → Option Part
  | .homeThenSeek _ => some .homePart
  | .home => none
  | .seek _ => none

/-- The direction of a SEEK, none when it stands on its target (R86; log 16). -/
def toward (position target : Nat) : Option Dir :=
  if position < target then some .opening
  else if target < position then some .closing
  else none

/-- The direction of the movement a job (or its part) calls for from a position (R86). -/
def movement (position : Nat) (j : Job) (part : Option Part) : Option Dir :=
  match j with
  | .home => some .closing
  | .seek t => toward position t
  | .homeThenSeek t => if part = some .seekPart then toward position t else some .closing

/-- The job or part in hand is a homing (R91). -/
def isHoming (j : Option Job) (part : Option Part) : Bool :=
  match j with
  | some .home => true
  | some (.homeThenSeek _) => part == some .homePart
  | some (.seek _) => false
  | none => false

/-- The target being sought, for a SEEK or a SEEK part (R90). -/
def Channel.seekTarget (ch : Channel) : Option Nat :=
  match ch.job with
  | some (.seek t) => some t
  | some (.homeThenSeek t) => if ch.part = some .seekPart then some t else none
  | some .home => none
  | none => none

/-- Pulses a homing may take from here (R87, R91). -/
def Channel.homingDistance (ch : Channel) (travel : Nat) : Nat :=
  (if ch.known then ch.position else travel) + travel / 8

/-- The pulses a job is expected to cover (R87). -/
def Channel.jobDistance (ch : Channel) (travel : Nat) (j : Job) : Nat :=
  match j with
  | .home => ch.homingDistance travel
  | .seek t => dist t ch.position
  | .homeThenSeek t => travel + travel / 8 + t

/-- Division rounded up. -/
def ceilDiv (a b : Nat) : Nat := (a + b - 1) / b

/-- The estimate of a job in seconds (R87). -/
def Channel.estimateOf (ch : Channel) (set : ChanSettings) (j : Job) : Nat :=
  clamp 1 255 (ceilDiv (ch.jobDistance set.travel j) set.speed + ceilDiv set.ramp 1000 + 1)

/-! ### Markers -/

/-- A marker stands at a position (R107). -/
def ChanSettings.isMarker (set : ChanSettings) (p : Nat) : Bool :=
  set.spacing != 0 && p != 0 && p % set.spacing == 0 && decide (p < set.travel)

/-- The nearest multiple of the marker spacing, halves rounded up (R108). -/
def ChanSettings.nearest (set : ChanSettings) (position : Nat) : Nat :=
  set.spacing * ((2 * position + set.spacing) / (2 * set.spacing))

/-- The set of passed flags with one more flag set (R107). -/
def setMark (p : Nat) (marks : List Nat) : List Nat := if p ∈ marks then marks else p :: marks

/-- The passed flags with that of the marker whose window holds the position set, if any (R107). -/
def ChanSettings.markWindow (set : ChanSettings) (position : Nat) (marks : List Nat) : List Nat :=
  let p := set.nearest position
  if set.isMarker p ∧ dist position p ≤ set.snap then setMark p marks else marks

/-- The marker checks apply (R107). -/
def Channel.markersApply (ch : Channel) (set : ChanSettings) : Bool :=
  set.spacing != 0 && ch.known && !ch.pinched
    && (ch.runState == .starting || ch.runState == .driving || ch.runState == .coasting
      || ch.runState == .dwell)

/-- The marker a pulse has passed, for a counter that has just moved to its present value (R109). -/
def Channel.passedMarker (ch : Channel) (set : ChanSettings) : Nat :=
  match ch.direction with
  | .opening => ch.position - (set.snap + 1)
  | .closing => ch.position + (set.snap + 1)

/-! ### The course of a run -/

/-- The end cause of a heading (R92). -/
def Heading.cause : Heading → EndCause
  | .done => .done
  | .stopped => .stopped
  | .yielded => .yielded
  | .positionLost => .positionLost
  | .supply => .supply
  | .fault _ => .fault

/-- A heading that a hand-over does not replace (R98, R100). -/
def Heading.final : Heading → Bool
  | .done => false
  | .stopped => false
  | .yielded => true
  | .positionLost => true
  | .supply => true
  | .fault _ => true

/-- The driver is switched off and the channel coasts (R92): the coast timer of 200 ms starts, the ramp,
stall and over-current timers stop (R112, R113). -/
def Channel.driverOff (ch : Channel) (now : Nat) (headed : Option Heading) (k : Continuation) :
    Channel :=
  { ch with runState := .coasting, rampMid := none, rampEnd := none, stall := none
            overcurrent := none, coast := some (now + 200), headed := headed, continuation := k }

/-- A movement enters STARTING, or DRIVING with a ramp time of 0 (R89): direction, ramp and stall timers
(R112), over-current timer (R113), budget of a homing (R91), passed flags (R107), and from WAIT_SLOT the
overrun clock (R94), slip count and passed flags afresh. -/
def Channel.started (ch : Channel) (set : ChanSettings) (now : Nat) (comparator : Bool) (j : Job)
    (part : Option Part) (d : Dir) (fromWait : Bool) : Channel :=
  let homing := isHoming (some j) part
  { ch with
    runState := if set.ramp = 0 then .driving else .starting
    job := some j
    part := part
    direction := d
    continuation := .none
    headed := none
    coast := none
    dwell := none
    rampMid := if set.ramp = 0 then none else some (now + set.ramp / 2)
    rampEnd := if set.ramp = 0 then none else some (now + set.ramp)
    stall := if set.ramp = 0 then some (now + set.stall) else none
    overcurrent := if comparator then some (now + 100) else none
    travelCount := if homing then 0 else ch.travelCount
    travelBudget := if homing then ch.homingDistance set.travel else ch.travelBudget
    overrunMs := if fromWait then 0 else ch.overrunMs
    slips := if fromWait then 0 else ch.slips
    pinched := if fromWait then false else ch.pinched
    passed := set.markWindow ch.position (if fromWait then [] else ch.passed) }

/-- A channel enters IDLE: no job and no claim; reported by R82, then it acts by R84. -/
def State.toIdle (s : State) (c : Chan) : Eff :=
  ((s.setChan c { s.chan c with
      runState := .idle, job := none, part := none, estimate := none, claimedJob := none
      retry := none }).requestReport,
    [.report c, .decide c])

/-- The record of a channel whose run has ended (R95, steps 1 to 3), with every timer of the run stopped. -/
def Channel.ended (ch : Channel) (h : Heading) : Channel :=
  { ch with
    lastEnd := h.cause, job := none, part := none, continuation := .none, headed := none
    estimate := none, claimedJob := none, rampMid := none, rampEnd := none, coast := none
    dwell := none, stall := none, overcurrent := none }

/-- A failure is counted (R117): BLOCKED with its retry timer at the first and second (R118), FAULT at the
third (R119). -/
def Channel.failed (ch : Channel) (set : ChanSettings) (now : Nat) (kind : FaultKind) : Channel :=
  let n := min 3 (ch.failures + 1)
  if n < 3 then
    { ch with failures := n, fault := kind, runState := .blocked, retry := some (now + set.retry * 1000) }
  else { ch with failures := n, fault := kind, runState := .fault, retry := none }

/-- A run ends (R95): the cause is recorded, the slot handed back, and the next state entered; RSU
considers the LOCAL slot before the channel's own next request (R141). -/
def State.endRun (s : State) (c : Chan) (h : Heading) : Eff :=
  let s1 := (s.setChan c ((s.chan c).ended h)).releaseSlot c h.cause
  let ch := s1.chan c
  match h with
  | .done =>
    let e := (s1.setChan c { ch with failures := 0 }).toIdle c
    (e.1, .localSlot :: e.2)
  | .stopped | .yielded | .positionLost =>
    let e := s1.toIdle c
    (e.1, .localSlot :: e.2)
  | .supply =>
    if s1.supply.status = .good then
      let e := s1.toIdle c
      (e.1, .localSlot :: e.2)
    else (s1.setChan c { ch with runState := .supplyWait }, [.localSlot])
  | .fault kind =>
    let s2 := s1.setChan c (ch.failed (s1.setting c) s1.now kind)
    (s2.requestReport, [.localSlot, .select c []])

/-- A movement is about to enter STARTING: the checks of R85, the held level (R99), the safety edge (R115)
and the slot (R79) are applied first. For a closing movement that finds its limit after a dwell or a coast R85
names no end cause: DESIGN CHOICE, the run ends DONE, as after a grant, and the channel decides afresh from IDLE;
and a limit is tested before the held level (log 47). -/
def State.startMovement (s : State) (c : Chan) (j : Job) (part : Option Part) (fromWait : Bool) : Eff :=
  let ch := s.chan c
  let pin := s.pin c
  match movement ch.position j part with
  | none => s.endRun c .done
  | some .closing =>
    if pin.closedLimit then (s.setChan c { ch with position := 0, known := true }).endRun c .done
    else if pin.edge then s.endRun c (.fault .pinch)
    else if !s.slotInForce c then s.endRun c .stopped
    else
      (s.setChan c (ch.started (s.setting c) s.now (s.comparatorActive c) j part .closing fromWait), [])
  | some .opening =>
    if pin.openLimit then s.endRun c .done
    else if (s.held c).shut then s.endRun c .stopped
    else if !s.slotInForce c then s.endRun c .stopped
    else
      (s.setChan c (ch.started (s.setting c) s.now (s.comparatorActive c) j part .opening fromWait), [])

/-! ### From request to job -/

/-- A channel asks for a run (R88): WAIT_SLOT with the job and its estimate handed to RSU, or SUPPLY_WAIT
when the supply is not GOOD. -/
def State.askRun (s : State) (c : Chan) (j : Job) (cls : Class) : Eff :=
  let ch := s.chan c
  if s.supply.status ≠ .good then (s.setChan c { ch with runState := .supplyWait, job := none, part := none }, [])
  else
    let est := ch.estimateOf (s.setting c) j
    ((s.setChan c { ch with
        runState := .waitSlot, job := some j, part := j.firstPart, estimate := some est
        claimedJob := some j }).updateClaim c { cls := cls, estimate := est },
      [.wish c])

/-- A channel in IDLE acts on its standing request (R84, with the checks of R85). -/
def State.decideRun (s : State) (c : Chan) : Eff :=
  let ch := s.chan c
  let pin := s.pin c
  if ch.runState ≠ .idle then (s, [])
  else
    match ch.standing with
    | none => (s, [])
    | some h =>
      if h.satisfied then (s, [])
      else
        match chooseJob ch.known (s.setting c).travel h.action with
        | none => (s, [])
        | some j =>
          match movement ch.position j j.firstPart with
          | none => (s, [])
          | some .opening =>
            if (s.held c).shut || pin.openLimit then (s, []) else s.askRun c j h.cls
          | some .closing =>
            if pin.closedLimit then
              if ch.known && ch.position == 0 then (s, [])
              else
                (s.setChan c { ch with position := 0, known := true }, [.report c, .decide c])
            else s.askRun c j h.cls

/-- A channel in WAIT_SLOT goes back to IDLE with its claim withdrawn (R88, R99, R133). -/
def State.leaveWait (s : State) (c : Chan) : Eff := (s.withdrawClaim c).toIdle c

/-- What a hand-over that asks for no further drive heads a run for: none and STOP for STOPPED, a satisfied
request for DONE; none for an unsatisfied CLOSE or OPEN (R96, R98). -/
def restHeading (h : Option Standing) : Option Heading :=
  match h with
  | none => some .stopped
  | some x =>
    match x.action with
    | .stop => some .stopped
    | .close => if x.satisfied then some .done else none
    | .openTo _ => if x.satisfied then some .done else none

/-- The job an unsatisfied hand-over calls for on a channel. -/
def State.jobFor (s : State) (c : Chan) (h : Option Standing) : Option (Job × Class) :=
  match h with
  | none => none
  | some x =>
    (chooseJob (s.chan c).known (s.setting c).travel x.action).map (fun j => (j, x.cls))

/-- A new estimate for the run's claim (R96, R97): the claimed estimate is replaced, the overrun clock
reset and the claim renewed. -/
def State.renewFor (s : State) (c : Chan) (j : Job) (cls : Class) : State :=
  let ch := s.chan c
  let est := ch.estimateOf (s.setting c) j
  (s.setChan c { ch with estimate := some est, claimedJob := some j, overrunMs := 0 }).renewClaim c
    { cls := cls, estimate := est }

/-- The claim's class differs from a request's class. -/
def State.classChanges (s : State) (c : Chan) (cls : Class) : Bool :=
  (s.claim c).current.map ClaimVals.cls != some cls

/-- A hand-over in WAIT_SLOT (R88). -/
def State.handOverWaiting (s : State) (c : Chan) (h : Option Standing) : Eff :=
  match restHeading h with
  | some _ => s.leaveWait c
  | none =>
    match s.jobFor c h with
    | none => s.leaveWait c
    | some (j, cls) =>
      let ch := s.chan c
      if movement ch.position j j.firstPart = some .opening ∧ (s.held c).shut = true then s.leaveWait c
      else
        let est := ch.estimateOf (s.setting c) j
        ((s.setChan c { ch with
            job := some j, part := j.firstPart, estimate := some est, claimedJob := some j }).updateClaim c
            { cls := cls, estimate := est }, [])

/-- The channel stands at a SEEK's stop point (R90). -/
def Channel.atStop (ch : Channel) (set : ChanSettings) : Bool :=
  match ch.seekTarget with
  | some t => dist ch.position t ≤ set.coast
  | none => false

/-- A SEEK drive at its stop point is switched off, headed for DONE (R90). -/
def State.checkStop (s : State) (c : Chan) : State :=
  let ch := s.chan c
  if ch.runState.drivingJob && ch.atStop (s.setting c) then
    s.setChan c (ch.driverOff s.now (some .done) .none)
  else s

/-- A snap has moved the counter from a position past the stop point of a SEEK drive, which is then taken as if
a pulse had brought it (R108, R90). -/
def Channel.snappedPast (ch : Channel) (old : Nat) : Bool :=
  match ch.seekTarget with
  | some t => decide (min old ch.position ≤ t ∧ t ≤ max old ch.position)
  | none => false

/-- After a snap from a position, a SEEK drive at its stop point or past it is switched off (R108, R90). -/
def State.checkSnap (s : State) (c : Chan) (old : Nat) : State :=
  let ch := s.chan c
  if ch.runState.drivingJob && (ch.atStop (s.setting c) || ch.snappedPast old) then
    s.setChan c (ch.driverOff s.now (some .done) .none)
  else s

/-- A retarget (R96): the job is replaced without switching the driver off; the claim is renewed when job,
target or class changes; a SEEK already within its coast allowance stops. -/
def State.retarget (s : State) (c : Chan) (j : Job) (cls : Class) : State :=
  let ch := s.chan c
  let fresh := isHoming (some j) j.firstPart && !isHoming ch.job ch.part
  let changed := ch.job != some j || s.classChanges c cls
  let s1 := s.setChan c { ch with
    job := some j, part := j.firstPart
    travelCount := if fresh then 0 else ch.travelCount
    travelBudget := if fresh then ch.homingDistance (s.setting c).travel else ch.travelBudget }
  (if changed then s1.renewFor c j cls else s1).checkStop c

/-- A hand-over in STARTING or DRIVING (R96, R97). -/
def State.handOverDriving (s : State) (c : Chan) (h : Option Standing) : Eff :=
  let ch := s.chan c
  match restHeading h with
  | some hd => (s.setChan c (ch.driverOff s.now (some hd) .none), [])
  | none =>
    match s.jobFor c h with
    | none => (s, [])
    | some (j, cls) =>
      match movement ch.position j j.firstPart with
      | none => (s.retarget c j cls, [])
      | some d =>
        if d = ch.direction then (s.retarget c j cls, [])
        else
          ((s.setChan c (ch.driverOff s.now none (.job j j.firstPart))).renewFor c j cls, [])

/-- A hand-over in COASTING or DWELL (R98, R100). -/
def State.handOverPausing (s : State) (c : Chan) (h : Option Standing) : Eff :=
  let ch := s.chan c
  if ch.headed.any Heading.final then (s, [])
  else
    match restHeading h with
    | some hd =>
      if ch.runState = .dwell then s.endRun c hd
      else (s.setChan c { ch with continuation := .none, headed := some hd }, [])
    | none =>
      match s.jobFor c h with
      | none => (s, [])
      | some (j, cls) =>
        let s1 := s.setChan c { ch with continuation := .job j j.firstPart, headed := none }
        (if ch.claimedJob != some j || s.classChanges c cls then s1.renewFor c j cls else s1, [])

/-- A hand-over reaches the channel (R83): it is stored, and taken as the run state says. -/
def State.handOver (s : State) (c : Chan) (h : Option Standing) : Eff :=
  let s1 := s.setChan c { s.chan c with standing := h }
  match (s.chan c).runState with
  | .idle => (s1, [.decide c])
  | .waitSlot => s1.handOverWaiting c h
  | .starting => s1.handOverDriving c h
  | .driving => s1.handOverDriving c h
  | .coasting => s1.handOverPausing c h
  | .dwell => s1.handOverPausing c h
  | .backoff => (s1, [])
  | .blocked => (s1, [])
  | .supplyWait => (s1, [])
  | .fault => (s1, [])

/-- The channel waits in WAIT_SLOT for an opening movement. -/
def State.waitsToOpen (s : State) (c : Chan) : Bool :=
  let ch := s.chan c
  match ch.runState, ch.job with
  | .waitSlot, some j => movement ch.position j ch.part == some .opening
  | _, _ => false

/-- The channel coasts or dwells with an opening movement to follow. -/
def State.pausesToOpen (s : State) (c : Chan) : Bool :=
  let ch := s.chan c
  match ch.continuation with
  | .job j part =>
    (ch.runState == .coasting || ch.runState == .dwell)
      && movement ch.position j part == some .opening
  | .none => false
  | .backoff => false

/-- The channel drives opening for a job. -/
def State.drivesOpen (s : State) (c : Chan) : Bool :=
  (s.chan c).runState.drivingJob && (s.chan c).direction == .opening

/-- At a held level of CLOSE or SEVERE a channel in WAIT_SLOT with an opening job returns to IDLE with its
claim withdrawn (R99, R133). -/
def State.barred (s : State) (c : Chan) : Eff :=
  if (s.held c).shut && s.waitsToOpen c then s.leaveWait c else (s, [])

/-- At a held level of CLOSE or SEVERE an opening drive is switched off, and an opening that was to follow a coast
or dwell is cancelled; either run is headed for STOPPED (R99). -/
def State.abortOpening (s : State) (c : Chan) : State :=
  if (s.held c).shut && s.drivesOpen c then
    s.setChan c ((s.chan c).driverOff s.now (some .stopped) .none)
  else if (s.held c).shut && s.pausesToOpen c then
    s.setChan c { s.chan c with continuation := .none, headed := some .stopped }
  else s

/-- A held level of CLOSE or SEVERE stops an opening that the channel has in hand, waiting or to follow: the
hand-over that follows the same posting then starts nothing new while that is still there, and the channel comes
to it by way of IDLE (R99, R104; log 25). -/
def State.stopsOpening (s : State) (c : Chan) : Bool :=
  (s.held c).shut && (s.drivesOpen c || s.pausesToOpen c || s.waitsToOpen c)

/-- A hand-over reaches a channel whose opening the held level has just stopped. While the stopped run or wait is
still there it is stored (R83), and one that asks for no drive ends a dwell at once (R98): the run is headed for
STOPPED and stays so (R99, R104; log 25). Where the channel has left it already, as a LOCAL grant that the other
channel's dwell end gives within the same event lets it (R141), the hand-over acts as in any run state (R83, R84). -/
def State.handOverStopped (s : State) (c : Chan) (h : Option Standing) : Eff :=
  let rs := (s.chan c).runState
  let s1 := s.setChan c { s.chan c with standing := h }
  if rs = .dwell ∧ (restHeading h).isSome = true then s1.endRun c .stopped
  else if rs = .dwell ∨ rs = .coasting ∨ s.waitsToOpen c = true then (s1, [])
  else s.handOver c h

/-! ### Grants and yields -/

/-- A grant of HELD or LOCAL reaches a present channel in WAIT_SLOT (R88). -/
def State.granted (s : State) (c : Chan) : Eff :=
  let ch := s.chan c
  match ch.runState, ch.job with
  | .waitSlot, some j => if s.present c then s.startMovement c j ch.part true else (s, [])
  | _, _ => (s, [])

/-- The Drive Channel's side of a yield (R100, R116). -/
def State.yieldChannel (s : State) (c : Chan) : Eff :=
  let ch := s.chan c
  match ch.runState with
  | .starting => (s.setChan c (ch.driverOff s.now (some .yielded) .none), [])
  | .driving => (s.setChan c (ch.driverOff s.now (some .yielded) .none), [])
  | .backoff => (s.setChan c (ch.driverOff s.now (some .yielded) .none), [])
  | .coasting => (s.setChan c { ch with continuation := .none, headed := some .yielded }, [])
  | .dwell => s.endRun c .yielded
  | .idle => (s, [])
  | .waitSlot => (s, [])
  | .blocked => (s, [])
  | .supplyWait => (s, [])
  | .fault => (s, [])

/-- A channel yields its slot (R138): the driver is off in the same event (R100), the slot is released
YIELDED and the claim state becomes NONE. -/
def State.yieldSlot (s : State) (c : Chan) : Eff :=
  let s1 := s.releaseHeld c .yielded
  let s2 := s1.setClaim c { s1.claim c with state := .none, owedRenewal := false }
  let e := s2.yieldChannel c
  (e.1, e.2 ++ [.localSlot])

/-- The channel yields to a CLAIM of class WEATHER or STORM (R138). -/
def State.mustYield (s : State) (c : Chan) : Bool :=
  (s.claim c).state == .held && (s.claim c).vals.cls.rank < 3

/-- A CLAIM taken into the table makes a channel yield (R138). -/
def State.yieldTo (s : State) (c : Chan) (cls : Class) (renew : Bool) : Eff :=
  if 3 ≤ cls.rank && !renew && s.mustYield c then s.yieldSlot c else (s, [])

/-- RSU takes a CLAIM into its run table (R127, R125, R138): a channel other than 0 or 1, or a class code
that names none, discards it. Where both channels yield, the rule gives no order of their RELEASEs: DESIGN
CHOICE, channel 0's first (log 41). -/
def State.takeClaim (s : State) (node : Nat) (f : ClaimFields) : Eff :=
  match chanOfCode f.channel.toNat, Class.ofCode f.cls.toNat with
  | some c, some cls =>
    let renew := f.renew != 0
    let s1 := s.noteCapacity f.capacity.toNat
    let s2 := s1.setRuns
      (takeEntry s1.rsu.table node c cls f.token.toNat (max 1 f.estimate.toNat) renew s1.now)
    (s2.yieldTo .c0 cls renew).andThen (fun s => s.yieldTo .c1 cls renew)
  | _, _ => (s, [])

/-! ### Pulses, limits and markers -/

/-- The position is lost (R111). -/
def State.losePosition (s : State) (c : Chan) : Eff :=
  let ch := { s.chan c with known := false, slips := 0, passed := [] }
  match ch.runState with
  | .starting => (s.setChan c (ch.driverOff s.now (some .positionLost) .none), [.report c])
  | .driving => (s.setChan c (ch.driverOff s.now (some .positionLost) .none), [.report c])
  | .dwell =>
    let h := match ch.headed with
      | some x => if x.final then x else .positionLost
      | none => .positionLost
    let e := (s.setChan c ch).endRun c h
    (e.1, .report c :: e.2)
  | _ =>
    let h := match ch.headed with
      | some x => if x.final then x else .positionLost
      | none => .positionLost
    (s.setChan c { ch with continuation := .none, headed := some h }, [.report c])

/-- A slip is counted (R110); the second since the last snap loses the position. -/
def State.slip (s : State) (c : Chan) : Eff :=
  let ch := s.chan c
  if 1 ≤ ch.slips then s.losePosition c else (s.setChan c { ch with slips := 1 }, [])

/-- The counter after a pulse (R80). -/
def Channel.stepPosition (ch : Channel) (travel : Nat) : Nat :=
  match ch.direction with
  | .opening => if ch.position < travel then ch.position + 1 else ch.position
  | .closing => ch.position - 1

/-- The record after a pulse is counted (R80): the counter moves; the coast and stall timers restart
(R92, R112); a closing pulse of a homing counts against its budget (R91). -/
def Channel.counted (ch : Channel) (set : ChanSettings) (now : Nat) : Channel :=
  let homingPulse := isHoming ch.job ch.part && ch.direction == .closing
    && (ch.runState.drivingJob || ch.runState == .coasting)
  { ch with
    position := ch.stepPosition set.travel
    coast := if ch.runState = .coasting then some (now + 200) else ch.coast
    stall := if ch.stall.isSome then some (now + set.stall) else ch.stall
    travelCount := if homingPulse then min 130000 (ch.travelCount + 1) else ch.travelCount }

/-- The travel budget of a homing is exceeded (R91): driver off, headed for FAULT with TRAVEL. -/
def State.checkTravel (s : State) (c : Chan) : State :=
  let ch := s.chan c
  if ch.runState.drivingJob && isHoming ch.job ch.part && decide (ch.travelBudget < ch.travelCount)
      && !(s.pin c).closedLimit then
    s.setChan c (ch.driverOff s.now (some (.fault .travel)) .none)
  else s

/-- A pulse that moved the counter is tested against the markers (R109). -/
def State.checkMissed (s : State) (c : Chan) (moved : Bool) : Eff :=
  let ch := s.chan c
  let set := s.setting c
  let p := ch.passedMarker set
  if moved && ch.markersApply set && set.isMarker p && decide (p ∉ ch.passed) then
    (s.setChan c { ch with passed := setMark p ch.passed }).slip c
  else (s, [])

/-- An opening pulse in BACKOFF counts, and the back-off setting ends the drive (R116). -/
def State.checkBackoff (s : State) (c : Chan) : State :=
  let ch := s.chan c
  if ch.runState = .backoff ∧ ch.direction = .opening then
    let ch' := { ch with backoffCount := ch.backoffCount + 1 }
    if (s.setting c).backoff ≤ ch'.backoffCount then
      s.setChan c (ch'.driverOff s.now ch.headed .none)
    else s.setChan c ch'
  else s

/-- An encoder pulse (R80), tested in turn against the stop points (R90), the travel budget (R91), the
markers (R109) and the back-off count (R116); a change of the counter in IDLE is reported (R82). -/
def State.pulse (s : State) (c : Chan) : Eff :=
  let ch := s.chan c
  let ch' := ch.counted (s.setting c) s.now
  let moved := ch'.position != ch.position
  let s1 := ((s.setChan c ch').checkStop c).checkTravel c
  let e := s1.checkMissed c moved
  let s2 := e.1.checkBackoff c
  (s2, e.2 ++ (if ch.runState = .idle ∧ moved = true then [.report c] else []))

/-- The closed limit has become active during a closing drive or its coast (R81, R90, R93, R110). -/
def State.limitEdge (s : State) (c : Chan) : Eff :=
  let ch := s.chan c
  let ch' := { ch with position := 0, known := true, slips := 0 }
  let ch'' :=
    if ch.runState.drivingJob then
      match ch.job, ch.part with
      | some (.homeThenSeek t), some .homePart =>
        ch'.driverOff s.now none (.job (.homeThenSeek t) (some .seekPart))
      | _, _ => ch'.driverOff s.now (some .done) .none
    else ch'
  (s.setChan c ch'', if ch.known then [] else [.report c])

/-- A marker edge (R108): a snap, or a wrong-place slip; a snap is tested against the stop points. -/
def State.marker (s : State) (c : Chan) : Eff :=
  let ch := s.chan c
  let set := s.setting c
  let p := set.nearest ch.position
  if !ch.markersApply set then (s, [])
  else if set.isMarker p ∧ dist ch.position p ≤ set.snap then
    ((s.setChan c { ch with position := p, slips := 0, passed := setMark p ch.passed }).checkSnap c
      ch.position, [])
  else s.slip c

/-! ### Ends of coasts and dwells, failures, supply -/

/-- A channel enters BACKOFF after the coast of a pinch (R116, R112, R113). -/
def Channel.backingOff (ch : Channel) (set : ChanSettings) (now : Nat) (comparator : Bool) : Channel :=
  { ch with
    runState := .backoff, direction := .opening, backoffCount := 0, continuation := .none
    coast := none, stall := some (now + set.stall)
    overcurrent := if comparator then some (now + 100) else none }

/-- The coast ends (R92, R116, R97). -/
def State.endCoast (s : State) (c : Chan) : Eff :=
  let ch := s.chan c
  match ch.continuation with
  | .none => s.endRun c (ch.headed.getD .done)
  | .backoff =>
    if 0 < (s.setting c).backoff && s.slotInForce c then
      (s.setChan c (ch.backingOff (s.setting c) s.now (s.comparatorActive c)), [])
    else s.endRun c (ch.headed.getD (.fault .pinch))
  | .job j part =>
    match movement ch.position j part with
    | none => s.endRun c .done
    | some d =>
      if d = ch.direction then s.startMovement c j part false
      else
        (s.setChan c { ch with
          runState := .dwell, coast := none, dwell := some (s.now + (s.setting c).dwell) }, [])

/-- The dwell ends (R97): the continuation starts under the same claim. -/
def State.endDwell (s : State) (c : Chan) : Eff :=
  let ch := s.chan c
  match ch.continuation with
  | .job j part => s.startMovement c j part false
  | .none => s.endRun c (ch.headed.getD .stopped)
  | .backoff => s.endRun c (ch.headed.getD .stopped)

/-- A failure switches an energised driver off, headed for FAULT (R94, R112, R113); in BACKOFF the run
stays headed as it was (R116). -/
def State.failDrive (s : State) (c : Chan) (kind : FaultKind) : State :=
  let ch := s.chan c
  match ch.runState with
  | .starting => s.setChan c (ch.driverOff s.now (some (.fault kind)) .none)
  | .driving => s.setChan c (ch.driverOff s.now (some (.fault kind)) .none)
  | .backoff => s.setChan c (ch.driverOff s.now ch.headed .none)
  | _ => s

/-- The supply status has become LOW, at one channel (R102). -/
def State.supplyLost (s : State) (c : Chan) : Eff :=
  let ch := s.chan c
  match ch.runState with
  | .starting => (s.setChan c (ch.driverOff s.now (some .supply) .none), [])
  | .driving => (s.setChan c (ch.driverOff s.now (some .supply) .none), [])
  | .backoff => (s.setChan c (ch.driverOff s.now (some .supply) .none), [])
  | .coasting =>
    if ch.continuation = .none then (s, [])
    else (s.setChan c { ch with continuation := .none, headed := some .supply }, [])
  | .dwell => s.endRun c .supply
  | .waitSlot =>
    ((s.setChan c { ch with
      runState := .supplyWait, job := none, part := none, estimate := none
      claimedJob := none }).withdrawClaim c, [])
  | .idle => (s, [])
  | .blocked => (s, [])
  | .supplyWait => (s, [])
  | .fault => (s, [])

/-- The supply status has become GOOD, at one channel (R103). -/
def State.supplyBack (s : State) (c : Chan) : Eff :=
  if s.present c && (s.chan c).runState == .supplyWait then s.toIdle c else (s, [])

/-- A BLOCKED or FAULT channel returns to IDLE with fault NONE (R118, R119, R120). -/
def State.clearFault (s : State) (c : Chan) : Eff :=
  let e := (s.setChan c { s.chan c with fault := .none }).toIdle c
  (e.1, .select c [] :: e.2)

/-- A fault reset at the very moment of a retry expiry that has already started the next run, which it can
only under a LOCAL slot granted at once, finds the failure count still to be set to 0 (R122; log 34). -/
def State.resetRetried (s : State) (c : Chan) : State :=
  if (s.chan c).retriedAt = some s.now then s.setChan c { s.chan c with failures := 0 } else s

/-- A fault reset reaches a channel (R120). -/
def State.faultReset (s : State) (c : Chan) : Eff :=
  let ch := s.chan c
  match ch.runState with
  | .fault =>
    if ch.fault = .cal then (s, []) else (s.setChan c { ch with failures := 0 }).clearFault c
  | .blocked => (s.setChan c { ch with failures := 0 }).clearFault c
  | .idle => (s.setChan c { ch with failures := 0 }, [])
  | .waitSlot => (s.setChan c { ch with failures := 0 }, [])
  | .supplyWait => (s.setChan c { ch with failures := 0 }, [])
  | .starting => (s.resetRetried c, [])
  | .driving => (s.resetRetried c, [])
  | .coasting => (s, [])
  | .dwell => (s, [])
  | .backoff => (s, [])

end Sys2Proof.Machine
end

