-- ==== Sys2Proof/Machine/Request.lean ====
section
/-! DEFINITION. The Request Table (04_requests_zones_and_the_panel.md R55 to R74): writing and removing
entries, selection of the effective request, satisfaction, threat rules on opens, zones. -/

namespace Sys2Proof.Machine

open Sys2Proof

/-- The entry of an origin (R55). -/
def ReqTable.get (t : ReqTable) (o : Origin) : Option Entry :=
  match o with
  | .weather => t.weather
  | .order => t.order
  | .panel => t.panel
  | .service => t.service

/-- Replace the entry of an origin. -/
def ReqTable.put (t : ReqTable) (o : Origin) (e : Option Entry) : ReqTable :=
  match o with
  | .weather => { t with weather := e }
  | .order => { t with order := e }
  | .panel => { t with panel := e }
  | .service => { t with service := e }

/-- The request table of a channel. -/
def State.table (s : State) (c : Chan) : ReqTable := s.req.table.get c

/-- The arrival orders of the present entries of a table. -/
def ReqTable.arrivals (t : ReqTable) : List Nat :=
  ([t.weather, t.order, t.panel, t.service].filterMap id).map Entry.arrival

/-- Renumbering of a table: each present entry takes the number of entries older than it (R56). -/
def ReqTable.renumber (t : ReqTable) (all : List Nat) : ReqTable :=
  let f : Option Entry → Option Entry :=
    Option.map (fun e => { e with arrival := (all.filter (fun a => decide (a < e.arrival))).length })
  { weather := f t.weather, order := f t.order, panel := f t.panel, service := f t.service }

/-- The present entries of both tables take the values 0, 1, 2 and so on, oldest first, and the counter
the value after the last (R56). -/
def Req.renumber (r : Req) : Req :=
  let all := r.table.c0.arrivals ++ r.table.c1.arrivals
  { r with
    table := { c0 := r.table.c0.renumber all, c1 := r.table.c1.renumber all }
    arrival := all.length }

/-- Write an entry (R55, R56): it replaces the entry of its origin and takes the next arrival order; a
write that finds the counter at 65535 renumbers first. -/
def State.writeEntry (s : State) (c : Chan) (o : Origin) (a : Action) (cls : Class)
    (expiry : Option Nat) : State :=
  let r := if s.req.arrival < 65535 then s.req else s.req.renumber
  { s with req := { r with
      table := r.table.set c ((r.table.get c).put o
        (some { action := a, cls := cls, arrival := r.arrival, expiry := expiry }))
      arrival := r.arrival + 1 } }

/-- Remove an entry (R55): it becomes absent; the counter does not change (R56). -/
def State.removeEntry (s : State) (c : Chan) (o : Origin) : State :=
  s.setTable c ((s.table c).put o none)

/-! ### The effective request -/

/-- A present entry is effective (R58). -/
def State.isEffective (s : State) (c : Chan) (o : Origin) (e : Entry) : Bool :=
  if (s.chan c).runState = .fault then false
  else if s.straps.commissioning then o == .panel
  else if s.pins.keyLocal then o == .panel || (o == .weather && e.cls == .storm)
  else true

/-- An entry beats another: higher class, and at equal class the later arrival (R59). -/
def Entry.beats (a b : Entry) : Bool :=
  if a.cls = b.cls then b.arrival < a.arrival else b.cls.rank < a.cls.rank

/-- The better of two candidates for the effective request (R59). -/
def betterEntry (a b : Option (Origin × Entry)) : Option (Origin × Entry) :=
  match a, b with
  | none, _ => b
  | _, none => a
  | some x, some y => if y.2.beats x.2 then some y else some x

/-- An origin's entry as a candidate, when it is present and effective (R58). -/
def State.candidate (s : State) (c : Chan) (o : Origin) : Option (Origin × Entry) :=
  match (s.table c).get o with
  | none => none
  | some e => if s.isEffective c o e then some (o, e) else none

/-- The effective request of a channel (R59). -/
def State.effectiveEntry (s : State) (c : Chan) : Option (Origin × Entry) :=
  betterEntry (betterEntry (s.candidate c .weather) (s.candidate c .order))
    (betterEntry (s.candidate c .panel) (s.candidate c .service))

/-- An action is satisfied on a channel (R61). -/
def State.satisfied (s : State) (c : Chan) (a : Action) : Bool :=
  let ch := s.chan c
  let set := s.setting c
  match a with
  | .close => s.closedOnLimit c
  | .openTo p => ch.known && decide (dist ch.position (targetOf p set.travel) ≤ set.coast + 4)
  | .stop => ch.runState == .idle

/-- The hand-over of an effective request (R59). -/
def State.standingOf (s : State) (c : Chan) (x : Option (Origin × Entry)) : Option Standing :=
  x.map (fun (o, e) =>
    { origin := o, action := e.action, cls := e.cls, satisfied := s.satisfied c e.action })

/-- A selection hands over: it falls on another entry than before, or on one written afresh or clamped
(R59). -/
def State.handsOver (s : State) (c : Chan) (touched : List Origin) : Bool :=
  let origin := (s.effectiveEntry c).map Prod.fst
  let fresh := match origin with
    | none => false
    | some o => decide (o ∈ touched)
  s.present c && (origin != s.req.effective.get c || fresh)

/-- The selection has fallen on the effective request (R59). -/
def State.markEffective (s : State) (c : Chan) : State :=
  { s with req := { s.req with
      effective := s.req.effective.set c ((s.effectiveEntry c).map Prod.fst) } }

/-- REQ selects, and hands the effective request over where that is called for (R59). -/
def State.select (s : State) (c : Chan) (touched : List Origin) : Eff :=
  if s.handsOver c touched then
    (s.markEffective c, [.handOver c (s.standingOf c (s.effectiveEntry c))])
  else (s, [])

/-- REQ selects for a channel that the held level has just stopped: the hand-over starts nothing new while the
stopped run or wait is still there (R99, R98; log 25). -/
def State.selectStored (s : State) (c : Chan) (touched : List Origin) : Eff :=
  if s.handsOver c touched then
    (s.markEffective c).handOverStopped c (s.standingOf c (s.effectiveEntry c))
  else (s, [])

/-- REQ takes a report of the Drive Channel (R82): a KNOWN position removes the SERVICE entry (R74), and
the standing effective request is tested again and handed over when the result has changed (R61). -/
def State.takeReport (s : State) (c : Chan) : Eff :=
  if !s.present c then (s, [])
  else if (s.chan c).known && (s.table c).service.isSome then
    (s.removeEntry c .service, [.select c [], .report c])
  else
    match s.effectiveEntry c, (s.chan c).standing with
    | some (o, e), some h =>
      if s.satisfied c e.action = h.satisfied then (s, [])
      else (s, [.handOver c (s.standingOf c (some (o, e)))])
    | _, _ => (s, [])

/-! ### Opens under threat -/

/-- The action of an entry is OPEN. -/
def Entry.isOpen (e : Entry) : Bool :=
  match e.action with
  | .openTo _ => true
  | .close => false
  | .stop => false

/-- A present entry without an OPEN action (R63, step 2). -/
def dropOpen (e : Option Entry) : Option Entry := e.filter (fun x => !x.isOpen)

/-- An OPEN target reduced to the watch limit (R62). -/
def Entry.clampOpen (limit : Nat) (e : Entry) : Entry :=
  match e.action with
  | .openTo p => { e with action := .openTo (min p limit) }
  | .close => e
  | .stop => e

/-- The origins whose entry a clamp changes (R62). -/
def clampTouched (limit : Nat) (t : ReqTable) : List Origin :=
  [Origin.weather, .order, .panel, .service].filter (fun o =>
    match t.get o with
    | some e => decide (e.clampOpen limit ≠ e)
    | none => false)

/-- The posting that a change of held level calls for (R52). -/
def State.post (s : State) (c : Chan) (was now : Level) : State :=
  match now with
  | .severe => s.writeEntry c .weather .close .storm none
  | .close => s.writeEntry c .weather .close .weather none
  | .watch => if was.shut then s.removeEntry c .weather else s
  | .calm => if was.shut then s.removeEntry c .weather else s

/-- The request table's side of a change of held level: the posting, the removal of OPENs and the clamp, with
the origins written afresh or clamped (R63). -/
def State.hearHeld (s : State) (c : Chan) (was : Level) : State × List Origin :=
  let now := s.held c
  let s1 := s.post c was now
  let t := s1.table c
  let touched := if now.shut then [Origin.weather] else []
  if now.shut && !was.shut then
    (s1.setTable c { t with order := dropOpen t.order, panel := dropOpen t.panel }, touched)
  else if now = .watch then
    let l := s1.config.watchLimit
    (s1.setTable c
      { weather := t.weather.map (Entry.clampOpen l), order := t.order.map (Entry.clampOpen l)
        panel := t.panel.map (Entry.clampOpen l), service := t.service.map (Entry.clampOpen l) },
      clampTouched l t)
  else (s1, touched)

/-- What the change of a held level signals to the Drive Channel besides the hand-over: CLOSE and SEVERE bar a
waiting opening (R99), and at a fall from them to WATCH or CALM a channel in IDLE acts again (R84). -/
def heldSignals (c : Chan) (was now : Level) : List Signal :=
  if now.shut then [.barred c] else if was.shut then [.decide c] else []

/-- A change of a held level (R53): the posting and the held-level signal as one event of the table (R63),
the signal to the Drive Channel, and the request for a STATE frame (R175). `stored` says that the held level
has stopped an opening of the channel, so that the hand-over starts nothing new while that is still there
(log 25). -/
def State.heldChanged (s : State) (c : Chan) (was : Level) (stored : Bool) : Eff :=
  let e := s.hearHeld c was
  (e.1.requestReport,
    (if stored then .selectStored c e.2 else .select c e.2) :: heldSignals c was (s.held c))

/-- An OPEN reaches REQ from an origin (R57, R62, R64): refused under CLOSE or SEVERE, its target clamped
to 100 and under WATCH to the watch limit. -/
def State.writeOpen (s : State) (c : Chan) (o : Origin) (cls : Class) (percent : Nat) : Eff :=
  if (s.held c).shut then (s, [])
  else
    let p := min percent 100
    let target := if s.held c = .watch then min p s.config.watchLimit else p
    (s.writeEntry c o (.openTo target) cls none, [.select c [o]])

/-- A CLOSE or STOP reaches REQ from an origin. -/
def State.writeOther (s : State) (c : Chan) (o : Origin) (a : Action) (cls : Class)
    (expiry : Option Nat) : Eff :=
  (s.writeEntry c o a cls expiry, [.select c [o]])

/-! ### Orders, zones, panel -/

/-- A zone code and mask match a channel's zone (R65): at every position both masks select, code and base
carry the same value. -/
def zoneMatch (code mask : Half) (set : ChanSettings) : Bool :=
  (code ^^^ set.zoneBase) &&& (mask &&& set.zoneMask) == 0#16

/-- An order applies to a channel: present and matched (R65). -/
def State.matched (s : State) (c : Chan) (f : OrderFields) : Bool :=
  s.present c && zoneMatch f.zoneCode f.zoneMask (s.setting c)

/-- The class of an ORDER entry: BUILDING as carried, every other code as USER (R66). -/
def orderClass (f : OrderFields) : Class := if f.cls.toNat = 2 then .building else .user

/-- The minutes of a SHUT_FOR: 0 as 1, above 240 as 240 (R66). -/
def shutMinutes (f : OrderFields) : Nat := clamp 1 240 f.parameter.toNat

/-- The channel runs in a direction: STARTING, DRIVING or COASTING with that drive direction (R70). -/
def State.runsToward (s : State) (c : Chan) (d : Dir) : Bool :=
  let ch := s.chan c
  (ch.runState.drivingJob || ch.runState == .coasting) && ch.direction == d

end Sys2Proof.Machine
end

