-- ==== Sys2Proof/Machine/Threat.lean ====
section
/-! DEFINITION. The Threat Unit (03_threat_levels.md R37 to R53): the threat computation, the held level
with its release-hold timer and latch, and UNLATCH. -/

namespace Sys2Proof.Machine

open Sys2Proof

/-- The effective gust (R41). -/
def effectiveGust (g w : Nat) : Nat := min 999 (g * w / 16)

/-- The wind level of an effective gust (R41). -/
def windLevel (cfg : Settings) (e : Nat) : Level :=
  if cfg.gSevere ≤ e then .severe
  else if cfg.gClose ≤ e then .close
  else if cfg.gWatch ≤ e then .watch
  else .calm

/-- The cosine weight of a bearing difference, in units of 1/64 (R42). -/
def cosineWeight (d : Nat) : Nat :=
  match d with
  | 0 => 64
  | 1 => 59
  | 2 => 45
  | 3 => 24
  | 13 => 24
  | 14 => 45
  | 15 => 59
  | _ => 0

/-- The driven-rain figure (R42); a direction that is no sector counts as facing every opening. -/
def drivenRain (mean direction normal : Nat) : Nat :=
  let c := if direction < 16 then cosineWeight ((direction + 16 - normal) % 16) else 64
  mean * c / 64

/-- The rain level (R43). -/
def rainLevel (cfg : Settings) (set : ChanSettings) (p : Picture) : Level :=
  match p.rain with
  | .dry => .calm
  | .wet => .watch
  | .rain =>
    match set.kind with
    | .skylight => if p.heavy then .severe else .close
    | .window =>
      if cfg.drClose ≤ drivenRain p.mean p.direction set.faceNormal then .close else .watch

/-- The raw level of a channel from a picture, lost quantities at the fail-safe level (R44, R45). -/
def rawLevel (cfg : Settings) (set : ChanSettings) (p : Picture) : Level :=
  let wind := if p.windSource = .lost then cfg.failSafe else windLevel cfg (effectiveGust p.gust set.weight)
  let rain := if p.rainSource = .lost then cfg.failSafe else rainLevel cfg set p
  wind.higher rain

/-- The floor of a channel (R47). -/
def Threat.floor (t : Threat) : Level := if t.latch then .close else .calm

/-- A KEEP channel sets its latch at an event that leaves its held level at CLOSE or SEVERE (R49). -/
def Threat.latched (t : Threat) (mode : LatchMode) : Threat :=
  if mode = .keep ∧ t.held.shut then { t with latch := true } else t

/-- A raw level is applied to a threat record (R46, R47, R49). R51 says that an expiry and a computation at one
instant end alike in both orders, which R46 to R48 do not give where the new raw level lies below the old one:
DEDUCED, R46 to R48 are followed as they stand, in the order the two are taken (log 38). -/
def Threat.apply (t : Threat) (mode : LatchMode) (hold now : Nat) (raw : Level) : Threat :=
  if t.held.rank < raw.rank then { t with raw := raw, held := raw, hold := none }.latched mode
  else if raw = t.held then { t with raw := raw, hold := none }
  else
    match t.hold with
    | some _ => { t with raw := raw }
    | none =>
      if (raw.higher t.floor).rank < t.held.rank then { t with raw := raw, hold := some (now + hold) }
      else { t with raw := raw }

/-- The release-hold timer expires (R48, R49). -/
def Threat.expire (t : Threat) (mode : LatchMode) : Threat :=
  { t with held := t.raw.higher t.floor, hold := none }.latched mode

/-- An UNLATCH of a set latch (R50, R49). -/
def Threat.unlatch (t : Threat) (mode : LatchMode) : Threat :=
  { t with latch := false, hold := none, held := t.raw }.latched mode

/-- A channel's threat record is replaced. At a change of the held level the channel keeps the law of R99
in the same event, and the posting and signals of R52 and R53 follow. The rules leave the order in which these
reach the channel open: DESIGN CHOICE, its own stop first, then the hand-over, then what the level signals to a
channel at rest (log 25). -/
def State.setThreat (s : State) (c : Chan) (t : Threat) : Eff :=
  let was := s.held c
  let s1 := s.setThr c t
  if t.held = was then (s1, []) else (s1.abortOpening c).heldChanged c was (s1.stopsOpening c)

/-- The threat computation of one channel on the present picture (R39, R40). -/
def State.computeThreat (s : State) (c : Chan) : Eff :=
  if !s.present c || s.src.picture.status == .starting then (s, [])
  else
    s.setThreat c ((s.thr.get c).apply (s.setting c).latchMode (s.config.tRel * 60000) s.now
      (rawLevel s.config (s.setting c) s.src.picture))

/-- The picture is handed over to THR, which computes for each present channel (R35, R39). Which channel is
computed and posted first the rules leave open: DESIGN CHOICE, channel 0 (log 45). -/
def State.handPicture (s : State) : Eff :=
  (s.computeThreat .c0).andThen (fun s => s.computeThreat .c1)

/-- The release-hold timer of a channel expires, when its moment has come (R48). -/
def State.expireHold (s : State) (c : Chan) : Eff :=
  if s.present c && s.dueAt (s.thr.get c).hold then
    s.setThreat c ((s.thr.get c).expire (s.setting c).latchMode)
  else (s, [])

/-- An UNLATCH for a channel (R50); a clear latch makes it of no effect. -/
def State.unlatchChannel (s : State) (c : Chan) : Eff :=
  if s.present c && (s.thr.get c).latch then
    s.setThreat c ((s.thr.get c).unlatch (s.setting c).latchMode)
  else (s, [])

end Sys2Proof.Machine
end

