-- ==== Sys2Proof/Machine/Source.lean ====
section
/-! DEFINITION. The Source Table and Picture (02_weather_sources_and_the_picture.md R20 to R36). -/

namespace Sys2Proof.Machine

open Sys2Proof

/-- The entry a slot of the working configuration makes at the load (R21, R36). An EMPTY entry takes the
priority of its slot, which in the default block is FIRST (DESIGN CHOICE, log 36). -/
def entryOf (slot : SourceSlot) : SourceEntry where
  address := slot.address
  tier := slot.tier
  status := if slot.address = 255 then .empty else .absent
  obs := .reset
  lastSeq := none
  acceptedAt := none

/-- The observation of a WEATHER frame as stored (R24). -/
def observationOf (f : WeatherFields) : Observation :=
  let state := (Rain.ofCode f.rain.toNat).getD .rain
  { rain := state
    heavy := f.flags.getLsbD 0 && state == .rain
    gust := min 999 f.gust.toNat
    mean := min 999 f.mean.toNat
    direction := if f.direction.toNat < 16 then f.direction.toNat else 255
    windOk := f.flags.getLsbD 1
    rainOk := f.flags.getLsbD 2 && (Rain.ofCode f.rain.toNat).isSome }

/-- An observation is accepted for an entry (R23, R25): stored, the timer restarted, LIVE. -/
def SourceEntry.accept (e : SourceEntry) (o : Observation) (q : Option Nat) (now : Nat) : SourceEntry :=
  { e with status := .live, obs := o, lastSeq := q, acceptedAt := some now }

/-- The frame is a repeat for the entry (R23). -/
def SourceEntry.repeats (e : SourceEntry) (q : Nat) : Bool :=
  (e.status == .live || e.status == .stale) && e.lastSeq == some q

/-- The LIVE entries of a tier whose health flag is set (R30, R31). -/
def healthy (entries : List SourceEntry) (tier : Tier) (ok : Observation → Bool) : List SourceEntry :=
  entries.filter (fun e => e.status == .live && e.tier == tier && ok e.obs)

/-- The set a quantity is taken from, and its tier (R30, R31). -/
def chosenSet (entries : List SourceEntry) (ok : Observation → Bool) :
    List SourceEntry × SourceTier :=
  let first := healthy entries .first ok
  let second := healthy entries .second ok
  if !first.isEmpty then (first, .first)
  else if !second.isEmpty then (second, .second)
  else ([], .lost)

/-- The supplying entry of a chosen wind set: the largest gust, the lowest index among equals (R30). -/
def supplier : List SourceEntry → Option SourceEntry
  | [] => none
  | e :: rest =>
    match supplier rest with
    | none => some e
    | some x => if e.obs.gust < x.obs.gust then some x else some e

/-- The picture status from the two sources (R33). -/
def statusOf (wind rain : SourceTier) : PictureStatus :=
  match wind, rain with
  | .lost, .lost => .lost
  | .lost, _ => .partly
  | _, .lost => .partly
  | .first, .first => .valid
  | _, _ => .degraded

/-- The picture of a table; the status is STARTING until the end of the listen-in (R30 to R34). -/
def pictureOf (entries : List SourceEntry) (started : Bool) : Picture :=
  let wind := chosenSet entries Observation.windOk
  let rain := chosenSet entries Observation.rainOk
  let figures := ((supplier wind.1).map SourceEntry.obs).getD Observation.reset
  { gust := figures.gust
    mean := figures.mean
    direction := figures.direction
    windSource := wind.2
    rain := rain.1.foldl (fun r e => r.worse e.obs.rain) .dry
    heavy := rain.1.any (fun e => e.obs.heavy)
    rainSource := rain.2
    status := if started then statusOf wind.2 rain.2 else .starting }

/-- SRC recomputes the picture (R29) and hands it over (R35); `started` says whether the listen-in has
ended. -/
def State.recompute (s : State) (started : Bool) : Eff :=
  let p := pictureOf s.src.entries started
  let s1 := s.setSrc { s.src with picture := p }
  (if p.status = s.src.picture.status then s1 else s1.requestReport).handPicture

/-- The listen-in has ended. -/
def State.started (s : State) : Bool := s.phase == .running

/-- SRC takes the local observation of a window end into the address-0 entry, when there is one (R25). -/
def State.takeLocal (s : State) (o : Observation) : Eff :=
  if s.driveActive && s.src.entries.any (fun e => e.address == 0) then
    let entries := s.src.entries.map (fun e => if e.address = 0 then e.accept o none s.now else e)
    (s.setSrc { s.src with entries := entries }).recompute s.started
  else (s, [])

/-- SRC takes a WEATHER frame (R23): unknown sources and repeats are ignored. -/
def State.takeWeather (s : State) (a : Nat) (f : WeatherFields) : Eff :=
  let q := f.sequence.toNat
  if s.driveActive && s.src.entries.any (fun e => e.address == a && !e.repeats q) then
    let entries := s.src.entries.map
      (fun e => if e.address = a then e.accept (observationOf f) (some q) s.now else e)
    (s.setSrc { s.src with entries := entries }).recompute s.started
  else (s, [])

/-- A stale timer expires (R26): the LIVE entry of the index whose timer has run out becomes STALE. After an
acceptance at the same instant the restarted timer has not run out (R27). -/
def State.expireSource (s : State) (k : Nat) : Eff :=
  match s.src.entries[k]? with
  | none => (s, [])
  | some e =>
    if s.stale e then
      (s.setSrc { s.src with entries := s.src.entries.set k { e with status := .stale } }).recompute
        s.started
    else (s, [])

end Sys2Proof.Machine
end

