-- ==== Sys2Proof/Machine/Weather.lean ====
section
/-! DEFINITION. The Weather Inputs (01_local_weather_measurement.md R1 to R18). -/

namespace Sys2Proof.Machine

open Sys2Proof

/-- The sector of a reflected Gray code V3..V0 (R4). -/
def graySector (v : BitVec 4) : Nat := (v ^^^ (v >>> 1) ^^^ (v >>> 2) ^^^ (v >>> 3)).toNat

/-- The sample speed of a count (R2). -/
def sampleSpeed (factor count : Nat) : Nat := min 999 (count * factor / 48)

/-- The pairs of neighbouring entries that carry different sectors (R6). -/
def sectorChanges : List Sample → Nat
  | [] => 0
  | [_] => 0
  | a :: b :: rest => (if a.sector = b.sector then 0 else 1) + sectorChanges (b :: rest)

/-- The window's sample is pushed (R2); the next window starts with a count of 0 (R1). -/
def Wxi.push (w : Wxi) (factor : Nat) (vane : BitVec 4) : Wxi :=
  { w with
    ring := ({ count := w.count, sector := graySector vane
               speed := sampleSpeed factor w.count } :: w.ring).take 20
    count := 0 }

/-- Anemometer health after a push (R6). -/
def Wxi.windHealth (w : Wxi) : Bool :=
  if w.windOk then
    !(w.ring.length == 20 && w.ring.all (fun x => x.count == 0) && decide (3 ≤ sectorChanges w.ring))
  else
    match w.ring with
    | [] => false
    | x :: _ => 0 < x.count

/-- The local gust: the largest sample speed of the ring (R3). -/
def ringGust (ring : List Sample) : Nat := ring.foldl (fun g x => max g x.speed) 0

/-- The local mean (R3). -/
def ringMean (factor : Nat) (ring : List Sample) : Nat :=
  min 999 ((ring.map Sample.count).sum * factor / (48 * ring.length))

/-- The reported direction (R5). -/
def ringDirection (windOk : Bool) (ring : List Sample) : Nat :=
  if windOk then
    match ring.find? (fun x => decide (5 ≤ x.speed)) with
    | some x => x.sector
    | none => 255
  else 255

/-- The local wind figures are formed (R3, R5). -/
def Wxi.figures (w : Wxi) (factor : Nat) : Wxi :=
  { w with gust := ringGust w.ring, mean := ringMean factor w.ring
           direction := ringDirection w.windOk w.ring }

/-- The rain input is at its configured wet level. -/
def State.rainWet (s : State) : Bool := s.pins.rainHigh == s.config.wetHigh

/-- The units of the last two minutes (R12). -/
def recentUnits (ring : List Nat) : Nat := (ring.take 2).sum

/-- The rain state of an evaluation (R12). -/
def rainState (cfg : Settings) (ring : List Nat) (wet : Bool) : Rain :=
  if cfg.rOn ≤ recentUnits ring then .rain
  else if 0 < ring.sum ∨ (cfg.rainMode = .gated ∧ wet = true) then .wet
  else .dry

/-- The rain figures are formed afresh (R12), and a rain state change makes an URGENT publication request
(R16). -/
def State.evaluateRain (s : State) : State :=
  let r := rainState s.config s.wxi.minuteRing s.rainWet
  let s1 := s.setWxi { s.wxi with
    rain := r
    heavy := r == .rain && decide (s.config.rHeavy ≤ recentUnits s.wxi.minuteRing)
    amount := s.wxi.minuteRing.sum }
  if r = s.wxi.rain then s1 else s1.publish true .rainChange

/-- A unit is added to the current bucket, which saturates at 255 (R10). -/
def addUnit (ring : List Nat) : List Nat :=
  match ring with
  | [] => []
  | b :: rest => min 255 (b + 1) :: rest

/-- The minute ring shifts (R11). -/
def shiftMinutes (ring : List Nat) : List Nat := (0 :: ring).take 10

/-- The rain counter increments, and at the compare value makes a rain unit (R10). -/
def State.countRain (s : State) : State :=
  let n := s.wxi.rainCounter + 1
  if n < s.config.compare then s.setWxi { s.wxi with rainCounter := n }
  else
    (s.setWxi { s.wxi with rainCounter := 0, minuteRing := addUnit s.wxi.minuteRing }).evaluateRain

/-- The minute boundary at every 20th window end (R11). -/
def State.minuteBoundary (s : State) : State :=
  (s.setWxi { s.wxi with minuteRing := shiftMinutes s.wxi.minuteRing }).evaluateRain

/-- The local observation (R7). -/
def Wxi.observation (w : Wxi) : Observation where
  rain := w.rain
  heavy := w.heavy
  gust := w.gust
  mean := w.mean
  direction := w.direction
  windOk := w.windOk
  rainOk := w.rainOk

/-- The band of a local gust (1.9). -/
def gustBand (cfg : Settings) (gust : Nat) : Nat :=
  if cfg.gSevere ≤ gust then 3
  else if cfg.gClose ≤ gust then 2
  else if cfg.gWatch ≤ gust then 1
  else 0

/-- The periodic publication decision of a window end (R15). The rule names no role, and a node of the DRIVE role
originates no WEATHER frame (R186): DESIGN CHOICE, its periodic count stands still (log 50). -/
def State.periodicRequest (s : State) : State :=
  if !s.publishes then s
  else if s.wxi.periodic ≤ 1 then
    (s.setWxi { s.wxi with periodic := s.config.pubInterval }).publish false .periodic
  else s.setWxi { s.wxi with periodic := s.wxi.periodic - 1 }

/-- The gust publication decision of a window end (R16). -/
def State.gustRequest (s : State) : State :=
  if s.wxi.band < gustBand s.config s.wxi.gust then s.publish true .gustLevel else s

/-- The window's sample, health, minute boundary and wind figures (R1, steps 1 to 4). -/
def State.closeWindow (s : State) (vane : BitVec 4) : State :=
  let w1 := s.wxi.push s.config.factor vane
  let w2 := { w1 with
    windOk := w1.windHealth, windows := w1.windows + 1, windowEnd := some (s.now + 3000) }
  let s2 := s.setWxi w2
  let s3 := if w2.windows % 20 = 0 then s2.minuteBoundary else s2
  s3.setWxi (s3.wxi.figures s3.config.factor)

/-- A sample window ends (R1, R7). R1 makes the publication decisions after the hand-over, and no rule says
whether a CLAIM that the hand-over leads to enters the transmit queue before them: DESIGN CHOICE, the WEATHER
frame enters first (log 46). -/
def State.endWindow (s : State) (vane : BitVec 4) : Eff :=
  let s1 := s.closeWindow vane
  (s1.takeLocal s1.wxi.observation).andThen (fun s => (s.periodicRequest.gustRequest, []))

/-- The content of a WEATHER frame (R18, R169). -/
def Wxi.weatherFields (w : Wxi) : WeatherFields where
  sequence := BitVec.ofNat 8 w.seq
  rain := BitVec.ofNat 8 w.rain.rank
  flags := BitVec.ofNat 8 (flagBit w.heavy 0 + flagBit w.windOk 1 + flagBit w.rainOk 2)
  amount := BitVec.ofNat 16 w.amount
  gust := BitVec.ofNat 16 w.gust
  mean := BitVec.ofNat 16 w.mean
  direction := BitVec.ofNat 8 w.direction
  cause := BitVec.ofNat 8 ((w.cause.getD .periodic).code)

/-- WXI has filled its frame (R18): the sequence number is used, the band announced, SENDING. -/
def Wxi.filled (w : Wxi) (cfg : Settings) : Wxi :=
  { w with seq := (w.seq + 1) % 256, band := gustBand cfg w.gust, pub := .sending }

end Sys2Proof.Machine
end

