-- ==== Sys2Proof/Machine/Line.lean ====
section
/-! DEFINITION. The Line Interface (08_the_node_line.md R146 to R162): attempts, collisions, completions,
the receive assembly, accepted frames and the address conflict. -/

namespace Sys2Proof.Machine

open Sys2Proof

/-! ### Sending -/

/-- A slot of a contention round may start an attempt (R147, R148, R161, R162). -/
def State.maySend (s : State) : Bool :=
  s.phase != .held && s.lin.round && !s.lin.stuck && !s.lin.conflict && s.validAddress
    && s.lin.attempt == none

/-- The content a frame goes out with: what its block gave, or what is taken now for the first attempt of a
WEATHER or STATE frame (R148). -/
def State.contentFor (s : State) (p : Place) (f : TxFrame) : Content :=
  match f.content with
  | some x => x
  | none => if p = .weather then .weather s.wxi.weatherFields else .report s.stateFields

/-- An attempt of the head starts (R148, R18, R176). -/
def State.startAttempt (s : State) (p : Place) (f : TxFrame) : State :=
  let x := s.contentFor p f
  let s1 := if p = .weather ∧ f.content = none then s.setWxi (s.wxi.filled s.config) else s
  s1.setLin { s1.lin.put p { (s1.lin.queue.get p) with frame := some { f with content := some x } } with
    attempt := some p, sending := contentBytes s.straps.address x, round := false }

/-- A slot of the round begins (R148). -/
def State.beginSlot (s : State) (slot : Nat) : State :=
  if s.maySend then
    match s.lin.head with
    | none => s
    | some (p, f) => if headSlot s.straps.address f = slot then s.startAttempt p f else s
  else s

/-- The node's own CLAIM has completed (R131, R127): taken into the table, announced, and for a claim under
way the window opens. -/
def State.claimComplete (s : State) (c : Chan) (f : ClaimFields) : Eff :=
  if !s.rsuListens then (s, [])
  else
    let e := s.takeClaim s.straps.address.toNat f
    let r := (e.1.claim c).hear f.token.toNat
    let r1 := if r.token = f.token.toNat then { r with announced := true } else r
    let r2 := if r.token = f.token.toNat ∧ r.state = .claiming ∧ f.renew = 0 then
        { r1 with completion := some e.1.now, window := some (e.1.now + 250) }
      else r1
    (e.1.setClaim c r2, e.2)

/-- The node's own RELEASE has completed (R128, R136): its entry leaves the table, and the other channel's
stagger may start. -/
def State.releaseComplete (s : State) (c : Chan) (f : ReleaseFields) : State :=
  if !s.rsuListens then s
  else
    (s.setRuns (dropEntry s.rsu.table s.straps.address.toNat f.channel.toNat f.token.toNat)).startStagger
      (chanOther c)

/-- The attempt in progress completes (R149): the frame leaves the queue, its block is told, and GIVE_UP is
cleared (R160). The completion is the moment of a quiet, at which the receive assembly becomes READY and
the bytes it read back are the node's own frame (R156, R158). -/
def State.completeAttempt (s : State) : Eff :=
  match s.lin.attempt with
  | none => (s, [])
  | some p =>
    let content := (s.lin.queue.get p).frame.bind TxFrame.content
    let s1 := s.setLin { s.lin.leave p with
      attempt := none, sending := [], assembly := { state := .ready, bytes := [] } }
    let e : Eff := match p, content with
      | .weather, _ => (s1.weatherFrameEnd, [])
      | .claim c, some (.claim f) => s1.claimComplete c f
      | .release c, some (.release f) => (s1.releaseComplete c f, [])
      | _, _ => (s1, [])
    e.andThen (fun s => s.changeCauses (fun l => { l with giveUp := false }))

/-- The attempt in progress ends with its frame given up, a CLAIM or RELEASE, which puts the line state in
ISOLATED (R143, R160). -/
def State.isolateByGiveUp (s : State) : Eff :=
  (s.setLin { s.lin with attempt := none, sending := [] }).changeCauses
    (fun l => { l with giveUp := true })

/-- A frame is given up after its sixteenth attempt (R150, R143). For a CLAIM or RELEASE RSU records what it
would have told the segment, and the entry into isolated operation takes the channel's other frames with it. -/
def State.giveUpFrame (s : State) (p : Place) : Eff :=
  let s1 := s.setLin { s.lin.leave p with attempt := none, sending := [] }
  match p with
  | .weather => (s1.weatherFrameEnd, [])
  | .report => (s1, [])
  | .order => (s1, [])
  | .claim c => (s.removeClaims c).isolateByGiveUp
  | .release c => (s.removeClaims c).isolateByGiveUp

/-- The queue after a collision that does not give the frame up (R149, R153, R154). -/
def Lin.collided (l : Lin) (p : Place) (f : TxFrame) : Lin :=
  let l1 := { l.put p { (l.queue.get p) with frame := some { f with attempts := f.attempts + 1 } } with
    attempt := none, sending := [] }
  let l2 := match p with
    | .claim c => l1.cancelPair c
    | _ => l1
  l2.applySuccessor p

/-- The attempt in progress collides (R149, R150). Where the sixteenth collision of a CLAIM meets a RELEASE of
its token in wait, R150 gives the frame up and R153 removes the pair: DESIGN CHOICE, the frame is given up and
the line isolated (log 48). -/
def State.collide (s : State) : Eff :=
  match s.lin.attempt with
  | none => (s, [])
  | some p =>
    match (s.lin.queue.get p).frame with
    | none => (s.setLin { s.lin with attempt := none, sending := [] }, [])
    | some f =>
      if f.attempts + 1 < 16 then (s.setLin (s.lin.collided p f), [])
      else s.giveUpFrame p

/-! ### Receiving -/

/-- A byte reaches the receive assembly (R156). -/
def Assembly.take (a : Assembly) (b : Byte) (framingError : Bool) : Assembly :=
  match a.state with
  | .waitQuiet => a
  | .discarding => a
  | .ready =>
    if framingError then { state := .discarding, bytes := [] }
    else { state := .assembling, bytes := [b] }
  | .assembling =>
    if framingError ∨ (4 ≤ a.bytes.length ∧ 6 + byteAt a.bytes 3 ≤ a.bytes.length) then
      { state := .discarding, bytes := [] }
    else { a with bytes := a.bytes ++ [b] }

/-- The command of a frame accepted at this quiet: none for a discarded frame (R157) and for the node's own
frame, whose effect comes with its completion (R158). -/
def Lin.acceptedNow (l : Lin) (own : Addr) : List Instr :=
  if l.assembly.state = .assembling ∧ l.attempt = none then
    match checkFrame l.assembly.bytes with
    | none => []
    | some i => [acceptedCommand own i]
  else []

/-- Quiet is recognised (R147, R157, R160, R161). -/
def State.quiet (s : State) : Eff :=
  let l := s.lin
  let s1 := { s with
    pins := { s.pins with lineDominant := false }
    lin := { l with
      assembly := { state := .ready, bytes := [] }
      round := true
      stuckTimer := none
      accepted := l.accepted ++ l.acceptedNow s.straps.address } }
  s1.changeCauses (fun l => { l with stuck := false })

/-- Every frame and successor is removed from the queue (R162). -/
def Lin.purgeAll (l : Lin) : Lin := allPlaces.foldl Lin.purge l

/-- An address conflict (R158, R162): the conflict flag and cause are set, the queue is emptied and each
removal reported. A node strapped 0 or 63 never meets one. The rules give no order between LIN's emptying of the
queue (R162) and RSU's record, at the entry into isolated operation, of what the removed RELEASEs and renewals would
have told the segment (R140): DESIGN CHOICE, RSU records first and then the queue is emptied (log 52). -/
def State.conflict (s : State) : Eff :=
  if s.phase == .held || !s.validAddress || s.lin.conflict then (s, [])
  else
    let e := s.changeCauses (fun l => { l with conflict := true })
    let s1 := e.1.setLin { e.1.lin.purgeAll with sending := [] }
    (if s1.wxi.pub = .idle then s1 else s1.weatherFrameEnd, e.2)

/-- A frame accepted from the line (R157, R158, R159): none comes from source 0 or 63 or before the straps
are latched, the node's own address is a conflict, and any other frame goes to `deliver`. -/
def State.receive (s : State) (i : Instr) (source : Addr) (deliver : State → Eff) : Eff :=
  let s1 := s.setLin { s.lin with accepted := s.lin.accepted.erase i }
  if s.phase == .held || !source.isStation then (s1, [])
  else if source = s.straps.address then s1.conflict
  else deliver s1

end Sys2Proof.Machine
end

