-- ==== Sys2Proof/Machine/Cascade.lean ====
section
/-! DEFINITION. The working off of the signals that a command raises between the blocks
(95_what_each_step_holds.md), and the end of every meaning. -/

namespace Sys2Proof.Machine

open Sys2Proof

/-- A channel in WAIT_SLOT wishes for a slot: after the listen-in a claim is made, or in isolated operation
the LOCAL slot considered (R131, R141). -/
def State.takeWish (s : State) (c : Chan) : Eff :=
  if s.isolated then (s, [.localSlot]) else (s.claimIfDue c, [])

/-- RSU grants the LOCAL slot, where R141 allows it. -/
def State.grantLocal (s : State) : Eff :=
  match s.localGrantee with
  | none => (s, [])
  | some c => (s.setClaim c { s.claim c with state := .localRun }, [.granted c])

/-- What a signal does where it arrives. -/
def State.handle (s : State) (x : Signal) : Eff :=
  match x with
  | .report c => s.takeReport c
  | .select c touched => s.select c touched
  | .selectStored c touched => s.selectStored c touched
  | .handOver c h => s.handOver c h
  | .decide c => s.decideRun c
  | .wish c => s.takeWish c
  | .localSlot => s.grantLocal
  | .granted c => s.granted c
  | .barred c => s.barred c

/-- Signals are worked off in order, those a signal raises before those that wait behind it. -/
def drain : Nat → List Signal → State → State
  | 0, _, s => s
  | _ + 1, [], s => s
  | n + 1, x :: rest, s => drain n ((s.handle x).2 ++ rest) (s.handle x).1

/-- More signals than the cascade of one command can raise (log 11). -/
def cascadeBound : Nat := 256

/-- The state at the end of a command: its signals worked off, and the status output at the level its
condition calls for (R180). -/
def finished (e : Eff) : State := (drain cascadeBound e.2 e.1).settle

/-- The outcome of a command. -/
def finish (e : Eff) : Host.Outcome State Fault Refusal := .next (finished e)

end Sys2Proof.Machine
end

