-- ==== Sys2Proof/Machine/Start.lean ====
section
/-! DEFINITION. The start sequence and the commissioning function (11_start_up_and_configuration.md R181 to
R188): reset, the latch of the straps, calibration, the load, the end of the listen-in, and the writing of a
new configuration block. -/

namespace Sys2Proof.Machine

open Sys2Proof

/-! ### Reset and straps -/

/-- A reset that comes during WRITING leaves the store partly written: the first bytes of the staging copy,
as many as the free value says, over the old content (R188; log 8). -/
def State.cutWrite (s : State) : State :=
  match s.commitState with
  | .idle => s
  | .writing =>
    let k := Config.bytesWritten s.freeCount
    { s with
      store := s.staging.take k ++ s.store.drop k
      storeTorn := decide (k < 96)
      freeCount := s.freeCount + 1 }

/-- Power-on reset and RESET_N (R181): every block takes its reset state. The store, the input levels and
the waiting commands belong to the outside and stay (log 5, 32). -/
def State.hold (s : State) : State :=
  let s1 := s.cutWrite
  { State.reset with
    pending := s.pending, now := s.now, pins := s.pins
    store := s1.store, storeTorn := s1.storeTorn, freeCount := s1.freeCount }

/-- The 96 bytes of the block as read from the store; a store that cannot be read gives free values
(R182; log 9). -/
def State.readStore (s : State) (readable : Bool) : List Byte :=
  if readable then s.store else (List.range 96).map (Config.unreadableByte s.freeCount)

/-- A channel of the node is to be calibrated (R184). -/
def State.toCalibrate (s : State) : List Chan :=
  if s.role = .sense then []
  else if s.config.ch1Present then [.c0, .c1]
  else [.c0]

/-- The straps are latched (R181), the store is read and the working configuration formed (R182); a store
that a reset left partly written fails its check (R188). -/
def State.latch (s : State) (address : Addr) (roleCode : BitVec 2) (commissioning readable : Bool) :
    State :=
  let raw := s.readStore readable
  let formed := formSettings address (readable && !s.storeTorn) raw
  { s with
    straps := { address := address, roleCode := roleCode, commissioning := commissioning }
    config := formed.value
    configFault := formed.flag
    blockRead := raw
    freeCount := if readable then s.freeCount else s.freeCount + 1 }

/-- Reset is released (R181, R182, R184): the start sequence begins. -/
def State.release (s : State) (address : Addr) (roleCode : BitVec 2) (commissioning readable : Bool) :
    State :=
  let s1 := s.latch address roleCode commissioning readable
  { s1 with
    phase := .calibrating
    calLeft := s1.toCalibrate
    calAt := some (if s1.toCalibrate.isEmpty then s1.now else s1.now + 50) }

/-! ### The load -/

/-- WXI begins its sample windows and rain ticks (R1, R9, R14). R9 gives the period of the ticks and not the
moment of the first: DESIGN CHOICE, one period after the load (log 35). -/
def State.startWxi (s : State) : State :=
  if s.wxiActive then
    s.setWxi { s.wxi with
      windowEnd := some (s.now + 3000)
      rainTickAt := if s.config.rainMode = .gated then some (s.now + 125) else none
      wetTimer := if s.config.rainMode = .gated ∧ s.rainWet = true then some (s.now + 43200000)
        else none }
  else s

/-- SRC builds its table (R21, R36). Where SRC is not active its table keeps no entries, as after reset (DESIGN
CHOICE, log 37). -/
def State.startSrc (s : State) : State :=
  if s.driveActive then s.setSrc { s.src with entries := s.config.sources.map entryOf } else s

/-- The motor supply status is taken from the comparator (R101). -/
def State.startSupply (s : State) : State :=
  if s.driveActive && s.pins.supplyGood then
    { s with supply := { status := .recovering, qualify := some (s.now + 2000) } }
  else s

/-- REQ writes a channel's SERVICE entry when the start action is HOME (R74). -/
def State.startService (s : State) (c : Chan) : Eff :=
  if s.present c && s.config.startHome then s.writeOther c .service .close .service none else (s, [])

/-- At the load, in every role, the gust thresholds of the working configuration are taken in ascending form, and
a raise sets the config-fault flag (R37). That the configuration of R182 holds them so from here on is DEDUCED
(log 39). -/
def State.takeThresholds (s : State) : State :=
  { s with config := s.config.ascend.value, configFault := s.configFault || s.config.ascend.flag }

/-- The listen-in begins: the thresholds are taken (R37) and the role code is judged (R181), the staging copy and
the commit state take their start (R187), RSU its capacity (R125), and the listen-in timer of 20 s runs
(R185). -/
def State.beginListenIn (s : State) : State :=
  { s.takeThresholds with
    phase := .listenIn
    configFault := s.takeThresholds.configFault || s.straps.roleCode == 3
    calAt := none
    listenInAt := some (s.now + 20000)
    staging := s.blockRead
    commitState := .idle
    rsu := { s.rsu with working := s.config.capacity } }

/-- The status interval timer starts, or starts again (R174). -/
def State.startInterval (s : State) : State :=
  { s with rep := { s.rep with interval := some (s.now + s.config.statusInterval * 1000) } }

/-- The blocks begin with the working configuration: WXI, SRC, the motor supply status, and the reporting
functions with a STATE frame and their interval (R185, R174). -/
def State.startBlocks (s : State) : State :=
  (s.startWxi.startSrc.startSupply).requestReport.startInterval

/-- SRC's first recompute, its status STARTING (R29, R34). -/
def State.startPicture (s : State) : Eff := if s.driveActive then s.recompute false else (s, [])

/-- The load hands the working configuration to every block (R185), and the listen-in begins. -/
def State.load (s : State) : Eff :=
  ((s.beginListenIn.startBlocks.startService .c0).andThen
    (fun s => s.startService .c1)).andThen State.startPicture

/-- A channel's calibration gives its offset, or CAL (R184, R121). R184 keeps an offset of 0..31 and names no value
for a channel that takes CAL: DESIGN CHOICE, its offset stays as it was, 0 from reset (log 51). -/
def Channel.calibrated (ch : Channel) (mean : Nat) : Channel :=
  if mean < 32 then { ch with calOffset := mean } else { ch with fault := .cal, runState := .fault }

/-- A channel's calibration is judged, and that of the next begins (R184). -/
def State.judge (s : State) (c : Chan) (mean : Nat) : State :=
  { s.setChan c ((s.chan c).calibrated mean) with
    calLeft := s.calLeft.erase c, calAt := some (s.now + 50) }

/-- The calibration of a channel ends (R184); the load follows the last (R185). Where no channel is to be
calibrated the load is all there is (log 12). -/
def State.endCalibration (s : State) (c : Chan) (mean : Nat) : Eff :=
  if s.phase ≠ .calibrating then (s, [])
  else if s.calLeft = [] then s.load
  else if c ∈ s.calLeft then
    let s1 := s.judge c mean
    if s1.calLeft = [] then s1.load else (s1, [])
  else (s, [])

/-- A channel's wish for a slot at the end of the listen-in (R131, R141). -/
def State.wishAt (s : State) (c : Chan) : List Signal := if s.wishing c then [.wish c] else []

/-- The node runs: no listen-in any more. -/
def State.enterRunning (s : State) : State := { s with phase := .running, listenInAt := none }

/-- SRC forms its status for the first time (R34). -/
def State.firstPicture (s : State) : Eff := if s.driveActive then s.recompute true else (s, [])

/-- The listen-in ends (R185): SRC recomputes and forms its status, and RSU makes claims or grants LOCAL. R185
lets either be first: DESIGN CHOICE, SRC and THR before RSU (log 44), and channel 0's claim before channel 1's
(log 43). -/
def State.endListenIn (s : State) : Eff :=
  if s.phase ≠ .listenIn then (s, [])
  else
    s.enterRunning.firstPicture.andThen (fun s => (s, s.wishAt .c0 ++ s.wishAt .c1))

/-! ### Commissioning -/

/-- The offsets of the six pieces of a block (R173, R187). -/
def pieceOffsets : List Nat := [0, 16, 32, 48, 64, 80]

/-- A CONFIG frame is for this node's commissioning function (R159, R187): the strap was latched fitted, the
target is the node's own address and no write is in progress. -/
def State.commissions (s : State) (target : Byte) : Bool :=
  s.straps.commissioning && target.toNat == s.straps.address.toNat && s.commitState == .idle

/-- A piece of sixteen bytes put into a block. -/
def putPiece (block : List Byte) (offset : Nat) (data : List Byte) : List Byte :=
  block.take offset ++ data ++ block.drop (offset + 16)

/-- A CONFIG_DATA frame (R187). -/
def State.takePiece (s : State) (target offset : Byte) (data : List Byte) : State :=
  if s.commissions target && decide (offset.toNat ∈ pieceOffsets) && data.length == 16 then
    { s with staging := putPiece s.staging offset.toNat data }
  else s

/-- The commit test (R188). R159 delivers CONFIG frames from the latch of the straps on, R187 gives the staging
copy and the commit state from the load: DESIGN CHOICE, before the load they act on those of the reset state,
zeros and IDLE (log 49). -/
def State.commitPasses (s : State) (crc : Half) : Bool :=
  crc16 (s.staging.take 94) == crc && (crc16 (s.staging.take 94)).toNat == halfAt s.staging 94

/-- The commit outcome is handed to the reporting functions (R177, R188). -/
def State.setOutcome (s : State) (o : CommitOutcome) : State :=
  { s with rep := { s.rep with outcome := o } }.requestReport

/-- A CONFIG_COMMIT frame (R188). -/
def State.takeCommit (s : State) (target : Byte) (crc : Half) : State :=
  if !s.commissions target then s
  else if s.commitPasses crc then { s with commitState := .writing }
  else s.setOutcome .refused

/-- The store write ends (R188): the store holds what the readback finds. -/
def State.endWrite (s : State) (readback : List Byte) : State :=
  match s.commitState with
  | .idle => s
  | .writing =>
    { s with store := readback, storeTorn := false, commitState := .idle }.setOutcome
      (if readback = s.staging then .ok else .refused)

end Sys2Proof.Machine
end

