-- ==== Sys2Proof/Machine/ExecRequest.lean ====
section
/-! DEFINITION. Meanings of the commands of the Request Table: orders, panel and key switch
(04_requests_zones_and_the_panel.md). -/

namespace Sys2Proof.Machine

open Sys2Proof

/-- An operation on one present channel; on a channel that is not present it has no effect. -/
def State.onChannel (s : State) (c : Chan) (act : State → Eff) : Eff :=
  if s.present c then act s else (s, [])

/-- An operation on each present channel. Where the rules name no order: DESIGN CHOICE, channel 0 first
(log 45). -/
def State.onEach (s : State) (act : Chan → State → Eff) : Eff :=
  (s.onChannel .c0 (act .c0)).andThen (fun s => s.onChannel .c1 (act .c1))

/-- An ORDER frame applied to a channel it matches (R65). -/
def State.orderOn (s : State) (f : OrderFields) (c : Chan) (act : Chan → State → Eff) : Eff :=
  if s.matched c f then act c s else (s, [])

/-- An accepted ORDER frame, dispatched once the block is loaded (R159) and applied to each matched channel,
one after the other (R65). Which comes first the rule leaves open: DESIGN CHOICE, channel 0 (log 45). -/
def State.takeOrder (s : State) (i : Instr) (source : Addr) (f : OrderFields)
    (act : Chan → State → Eff) : Eff :=
  s.receive i source (fun s =>
    if s.loaded then (s.orderOn f .c0 act).andThen (fun s => s.orderOn f .c1 act) else (s, []))

/-- ORDER_CLOSE (R66). -/
def execOrderClose (source : Addr) (f : OrderFields) (s : State) : Host.Outcome State Fault Refusal :=
  finish (s.takeOrder (.orderClose source f) source f
    (fun c s => s.writeOther c .order .close (orderClass f) none))

/-- ORDER_OPEN (R57, R62, R64, R66). -/
def execOrderOpen (source : Addr) (f : OrderFields) (s : State) : Host.Outcome State Fault Refusal :=
  finish (s.takeOrder (.orderOpen source f) source f
    (fun c s => s.writeOpen c .order (orderClass f) f.parameter.toNat))

/-- ORDER_STOP (R66). -/
def execOrderStop (source : Addr) (f : OrderFields) (s : State) : Host.Outcome State Fault Refusal :=
  finish (s.takeOrder (.orderStop source f) source f
    (fun c s => s.writeOther c .order .stop (orderClass f) none))

/-- ORDER_SHUT_FOR (R66). -/
def execOrderShutFor (source : Addr) (f : OrderFields) (s : State) : Host.Outcome State Fault Refusal :=
  finish (s.takeOrder (.orderShutFor source f) source f
    (fun c s => s.writeOther c .order .close (orderClass f) (some (s.now + shutMinutes f * 60000))))

/-- ORDER_UNLATCH (R68, R50). -/
def execOrderUnlatch (source : Addr) (f : OrderFields) (s : State) : Host.Outcome State Fault Refusal :=
  finish (s.takeOrder (.orderUnlatch source f) source f (fun c s => s.unlatchChannel c))

/-- ORDER_RESET_FAULT (R68, R120). -/
def execOrderResetFault (source : Addr) (f : OrderFields) (s : State) :
    Host.Outcome State Fault Refusal :=
  finish (s.takeOrder (.orderResetFault source f) source f (fun c s => s.faultReset c))

/-- ORDER_UNKNOWN_ACTION (R66): writes nothing and passes nothing on. -/
def execOrderUnknownAction (source : Addr) (action : Byte) (f : OrderFields) (s : State) :
    Host.Outcome State Fault Refusal :=
  finish (s.takeOrder (.orderUnknownAction source action f) source f (fun _ s => (s, [])))

/-- The expiry of a channel's ORDER entry, when its moment has come; an entry written at the same instant has
a new expiry or none, and stands (R67). -/
def State.expireOrder (s : State) (c : Chan) : Eff :=
  if s.dueAt ((s.table c).order.bind Entry.expiry) then (s.removeEntry c .order, [.select c []])
  else (s, [])

/-- ORDER_EXPIRY (R67). -/
def execOrderExpiry (c : Chan) (s : State) : Host.Outcome State Fault Refusal :=
  finish (s.onChannel c (fun s => s.expireOrder c))

/-- A press of a channel's OPEN button (R70, R62, R64). -/
def State.pressOpen (s : State) (c : Chan) : Eff :=
  if s.runsToward c .opening then s.writeOther c .panel .stop .user none
  else s.writeOpen c .panel .user 100

/-- PANEL_OPEN_PRESS (R70). -/
def execPanelOpenPress (c : Chan) (s : State) : Host.Outcome State Fault Refusal :=
  finish (s.onChannel c (fun s => s.pressOpen c))

/-- A press of a channel's CLOSE button (R70). -/
def State.pressClose (s : State) (c : Chan) : Eff :=
  s.writeOther c .panel (if s.runsToward c .closing then .stop else .close) .user none

/-- PANEL_CLOSE_PRESS (R70). -/
def execPanelClosePress (c : Chan) (s : State) : Host.Outcome State Fault Refusal :=
  finish (s.onChannel c (fun s => s.pressClose c))

/-- ACK_PRESS (R71): an UNLATCH and a fault reset for each present channel. Whether the fault reset meets the
channel before or after the hand-over of the UNLATCH has acted the rule leaves open: DESIGN CHOICE, before it
(log 40). Which channel comes first the rule leaves open too: DESIGN CHOICE, channel 0 with its fault reset
(log 45). -/
def execAckPress (s : State) : Host.Outcome State Fault Refusal :=
  finish (s.onEach (fun c s => (s.unlatchChannel c).andThen (fun s => s.faultReset c)))

/-- The ORDER frame of a ZONE_CLOSE press: action CLOSE, class USER, zone of channel 0, parameter 0 (R72). -/
def State.zoneOrder (s : State) : OrderFields where
  zoneCode := (s.setting .c0).zoneBase
  zoneMask := (s.setting .c0).zoneMask
  cls := 1
  parameter := 0

/-- Channel 1 is closed with channel 0 at a ZONE_CLOSE press when its zone matches channel 0's (R72). -/
def State.closeNeighbour (s : State) : Eff :=
  if s.matched .c1 s.zoneOrder then s.writeOther .c1 .panel .close .user none else (s, [])

/-- A ZONE_CLOSE press (R72). -/
def State.closeZone (s : State) : Eff :=
  ((s.writeOther .c0 .panel .close .user none).andThen State.closeNeighbour).andThen
    (fun s => (s.queue .order { urgent := true, content := some (.order 1 s.zoneOrder) }, []))

/-- ZONE_CLOSE_PRESS (R72). -/
def execZoneClosePress (s : State) : Host.Outcome State Fault Refusal :=
  finish (s.onChannel .c0 State.closeZone)

/-- KEY_SWITCH_CHANGE (R73, R175): at a change of position both channels are selected afresh. Which comes first
the rule leaves open: DESIGN CHOICE, channel 0 (log 45). -/
def execKeySwitchChange (toLocal : Bool) (s : State) : Host.Outcome State Fault Refusal :=
  finish
    (if toLocal = s.pins.keyLocal then (s, [])
    else
      ({ s with pins := { s.pins with keyLocal := toLocal } }.requestReport,
        [.select .c0 [], .select .c1 []]))

end Sys2Proof.Machine
end

