-- ==== Sys2Proof/Machine/ExecDrive.lean ====
section
/-! DEFINITION. Meanings of the commands of the Drive Channels (05_the_positioning_engine.md,
06_markers_stall_and_the_safety_edge.md). A channel that is not present ignores its inputs (R77). -/

namespace Sys2Proof.Machine

open Sys2Proof

/-- ENCODER_PULSE (R80, R90, R91, R109, R112, R116). -/
def execEncoderPulse (c : Chan) (s : State) : Host.Outcome State Fault Refusal :=
  finish (s.onChannel c (fun s => s.pulse c))

/-- The closed limit has become active while the channel closes in a run (R81). -/
def State.closesOnto (s : State) (c : Chan) : Bool :=
  let ch := s.chan c
  (ch.runState.drivingJob || ch.runState == .coasting) && ch.direction == .closing

/-- A change of the closed limit input (R81, R82, R90). -/
def State.changeClosedLimit (s : State) (c : Chan) (active : Bool) : Eff :=
  if active && s.closesOnto c then s.limitEdge c
  else if (s.chan c).runState = .idle then (s, [.report c])
  else (s, [])

/-- CLOSED_LIMIT_CHANGE (R81). -/
def execClosedLimitChange (c : Chan) (active : Bool) (s : State) : Host.Outcome State Fault Refusal :=
  let s1 := s.setPin c { s.pin c with closedLimit := active }
  finish
    (if active = (s.pin c).closedLimit then (s, [])
    else s1.onChannel c (fun s => s.changeClosedLimit c active))

/-- The open limit has become active: an opening drive is headed for DONE, and a back-off stays headed as it
was (R90, R116). -/
def State.openLimitEdge (s : State) (c : Chan) : State :=
  let ch := s.chan c
  if ch.runState.drivingJob && ch.direction == .opening then
    s.setChan c (ch.driverOff s.now (some .done) .none)
  else if ch.runState = .backoff then s.setChan c (ch.driverOff s.now ch.headed .none)
  else s

/-- OPEN_LIMIT_ACTIVE (R90, R116). -/
def execOpenLimitActive (c : Chan) (active : Bool) (s : State) : Host.Outcome State Fault Refusal :=
  let s1 := s.setPin c { s.pin c with openLimit := active }
  finish
    (if active && !(s.pin c).openLimit then s1.onChannel c (fun s => (s.openLimitEdge c, []))
    else (s1, []))

/-- The ramp has passed its midpoint in STARTING: the stall timer starts (R112). -/
def State.passMidpoint (s : State) (c : Chan) : State :=
  let ch := s.chan c
  if ch.runState = .starting ∧ s.dueAt ch.rampMid = true then
    s.setChan c { ch with rampMid := none, stall := some (s.now + (s.setting c).stall) }
  else s

/-- RAMP_MIDPOINT (R112). -/
def execRampMidpoint (c : Chan) (s : State) : Host.Outcome State Fault Refusal :=
  finish (s.onChannel c (fun s => (s.passMidpoint c, [])))

/-- The ramp time has passed: DRIVING (R89); a stall timer not yet running starts (R112). -/
def State.endRamp (s : State) (c : Chan) : State :=
  let ch := s.chan c
  if ch.runState = .starting ∧ s.dueAt ch.rampEnd = true then
    s.setChan c { ch with
      runState := .driving, rampMid := none, rampEnd := none
      stall := if ch.stall.isSome then ch.stall else some (s.now + (s.setting c).stall) }
  else s

/-- RAMP_END (R89). -/
def execRampEnd (c : Chan) (s : State) : Host.Outcome State Fault Refusal :=
  finish (s.onChannel c (fun s => (s.endRamp c, [])))

/-- COAST_END (R92). -/
def execCoastEnd (c : Chan) (s : State) : Host.Outcome State Fault Refusal :=
  finish (s.onChannel c (fun s =>
    if (s.chan c).runState = .coasting ∧ s.dueAt (s.chan c).coast = true then s.endCoast c
    else (s, [])))

/-- DWELL_END (R97). -/
def execDwellEnd (c : Chan) (s : State) : Host.Outcome State Fault Refusal :=
  finish (s.onChannel c (fun s =>
    if (s.chan c).runState = .dwell ∧ s.dueAt (s.chan c).dwell = true then s.endDwell c
    else (s, [])))

/-- OVERRUN (R94, R116). -/
def execOverrun (c : Chan) (s : State) : Host.Outcome State Fault Refusal :=
  finish (s.onChannel c (fun s => (if s.overrunDue c then s.failDrive c .overrun else s, [])))

/-- The supply comparator has fallen low (R101, R102). -/
def State.dropSupply (s : State) : Eff :=
  if s.driveActive && s.supply.status != .low then
    { s with supply := { status := .low, qualify := none } }.onEach (fun c s => s.supplyLost c)
  else (s, [])

/-- SUPPLY_LOW (R101, R102). -/
def execSupplyLow (s : State) : Host.Outcome State Fault Refusal :=
  finish { s with pins := { s.pins with supplyGood := false } }.dropSupply

/-- SUPPLY_RETURN (R101). -/
def execSupplyReturn (s : State) : Host.Outcome State Fault Refusal :=
  let s1 := { s with pins := { s.pins with supplyGood := true } }
  finish
    (if s1.driveActive && s1.supply.status == .low then
      { s1 with supply := { status := .recovering, qualify := some (s1.now + 2000) } }
    else s1, [])

/-- SUPPLY_QUALIFIED (R101, R103). Which of two waiting channels acts first the rule leaves open: DESIGN CHOICE,
channel 0 (log 45). -/
def execSupplyQualified (s : State) : Host.Outcome State Fault Refusal :=
  finish
    (if s.supply.status = .recovering ∧ s.dueAt s.supply.qualify = true then
      { s with supply := { status := .good, qualify := none } }.onEach (fun c s => s.supplyBack c)
    else (s, []))

/-- MARKER_EDGE (R108). -/
def execMarkerEdge (c : Chan) (s : State) : Host.Outcome State Fault Refusal :=
  finish (s.onChannel c (fun s => s.marker c))

/-- STALL_TIMER_EXPIRY (R112, R116). -/
def execStallTimerExpiry (c : Chan) (s : State) : Host.Outcome State Fault Refusal :=
  finish (s.onChannel c (fun s =>
    (if s.dueAt (s.chan c).stall then s.failDrive c .stallSilent else s, [])))

/-- The over-current timer follows the comparator while the driver is energised (R113). -/
def State.followComparator (s : State) (c : Chan) : State :=
  let ch := s.chan c
  if !s.energised c then s
  else if s.comparatorActive c then
    if ch.overcurrent.isSome then s else s.setChan c { ch with overcurrent := some (s.now + 100) }
  else s.setChan c { ch with overcurrent := none }

/-- OVERCURRENT_CHANGE (R113). -/
def execOvercurrentChange (c : Chan) (sensed : Byte) (s : State) : Host.Outcome State Fault Refusal :=
  finish ((s.setPin c { s.pin c with sensed := sensed.toNat }).onChannel c
    (fun s => (s.followComparator c, [])))

/-- OVERCURRENT_TIMER_EXPIRY (R113, R116). -/
def execOvercurrentTimerExpiry (c : Chan) (s : State) : Host.Outcome State Fault Refusal :=
  finish (s.onChannel c (fun s =>
    (if s.dueAt (s.chan c).overcurrent then s.failDrive c .stallCurrent else s, [])))

/-- The safety edge has become active: while the channel drives closing this is a pinch (R114). -/
def State.pinch (s : State) (c : Chan) : State :=
  let ch := s.chan c
  if ch.runState.drivingJob && ch.direction == .closing then
    s.setChan c { ch.driverOff s.now (some (.fault .pinch)) .backoff with pinched := true }
  else s

/-- SAFETY_EDGE_ACTIVE (R114). -/
def execSafetyEdgeActive (c : Chan) (active : Bool) (s : State) : Host.Outcome State Fault Refusal :=
  let s1 := s.setPin c { s.pin c with edge := active }
  finish
    (if active && !(s.pin c).edge then s1.onChannel c (fun s => (s.pinch c, [])) else (s1, []))

/-- RETRY_DELAY_EXPIRY (R118). -/
def execRetryDelayExpiry (c : Chan) (s : State) : Host.Outcome State Fault Refusal :=
  finish (s.onChannel c (fun s =>
    if (s.chan c).runState = .blocked ∧ s.dueAt (s.chan c).retry = true then
      (s.setChan c { s.chan c with retriedAt := some s.now }).clearFault c
    else (s, [])))

end Sys2Proof.Machine
end

