-- ==== Sys2Proof/Machine/ExecLine.lean ====
section
/-! DEFINITION. Meanings of the commands of the Line Interface (08_the_node_line.md). -/

namespace Sys2Proof.Machine

open Sys2Proof

/-- LINE_QUIET (R147, R156, R157, R161): a node held in reset recognises nothing. -/
def execLineQuiet (s : State) : Host.Outcome State Fault Refusal :=
  finish (if s.phase = .held then (s, []) else s.quiet)

/-- ATTEMPT_START (R148). -/
def execAttemptStart (slot : Nat) (s : State) : Host.Outcome State Fault Refusal :=
  finish (s.beginSlot slot, [])

/-- COLLISION (R149, R150). -/
def execCollision (s : State) : Host.Outcome State Fault Refusal := finish s.collide

/-- ATTEMPT_COMPLETE (R149, R160). -/
def execAttemptComplete (s : State) : Host.Outcome State Fault Refusal := finish s.completeAttempt

/-- The line has been dominant for 20 ms (R161). -/
def State.stickLine (s : State) : Eff :=
  (s.setLin { s.lin with
    stuckTimer := none, round := false
    assembly := { state := .waitQuiet, bytes := [] } }).changeCauses (fun l => { l with stuck := true })

/-- STUCK_TIMER_EXPIRY (R161). -/
def execStuckTimerExpiry (s : State) : Host.Outcome State Fault Refusal :=
  finish (if s.dueAt s.lin.stuckTimer then s.stickLine else (s, []))

/-- ADDRESS_CONFLICT (R158, R162). -/
def execAddressConflict (s : State) : Host.Outcome State Fault Refusal :=
  finish (s.setLin { s.lin with accepted := s.lin.accepted.erase .addressConflict }).conflict

/-- STATE_FRAME (R159): dispatched to no block. -/
def execStateFrame (source : Addr) (payload : List Byte) (s : State) :
    Host.Outcome State Fault Refusal :=
  finish (s.receive (.stateFrame source payload) source (fun s => (s, [])))

/-- BYTE_RECEIVED (R156); the line went dominant with its start bit, so a round has ended (R147). -/
def execByteReceived (b : Byte) (framingError : Bool) (s : State) : Host.Outcome State Fault Refusal :=
  finish
    (if s.phase = .held then s
    else s.setLin { s.lin with assembly := s.lin.assembly.take b framingError, round := false }, [])

/-- The line has gone dominant or recessive (R147, R161). -/
def State.takeLineLevel (s : State) (dominant : Bool) : State :=
  if dominant then s.setLin { s.lin with round := false, stuckTimer := some (s.now + 20) }
  else s.setLin { s.lin with stuckTimer := none }

/-- LINE_LEVEL_CHANGE (R147, R161). -/
def execLineLevelChange (dominant : Bool) (s : State) : Host.Outcome State Fault Refusal :=
  let s1 := { s with pins := { s.pins with lineDominant := dominant } }
  finish
    (if s.phase = .held ∨ dominant = s.pins.lineDominant then s1 else s1.takeLineLevel dominant, [])

end Sys2Proof.Machine
end

