-- ==== Sys2Proof/Machine/ExecSlots.lean ====
section
/-! DEFINITION. Meanings of the commands of the Run Slot Unit (07_run_slots_on_a_supply_segment.md). -/

namespace Sys2Proof.Machine

open Sys2Proof

/-- A CLAIM or RELEASE of this segment reaches RSU (R124, R159). -/
def State.hearsSegment (s : State) (segment : Byte) : Bool :=
  s.loaded && s.rsuListens && segment.toNat == s.config.segment

/-- CLAIM_FRAME (R125, R127, R138). -/
def execClaimFrame (source : Addr) (f : ClaimFields) (s : State) : Host.Outcome State Fault Refusal :=
  finish (s.receive (.claimFrame source f) source
    (fun s => if s.hearsSegment f.segment then s.takeClaim source.toNat f else (s, [])))

/-- A RELEASE of another node is heard (R128, R136). -/
def State.hearRelease (s : State) (source : Addr) (f : ReleaseFields) : State :=
  ((s.setRuns (dropEntry s.rsu.table source.toNat f.channel.toNat f.token.toNat)).startStagger
    .c0).startStagger .c1

/-- RELEASE_FRAME (R128, R136). -/
def execReleaseFrame (source : Addr) (f : ReleaseFields) (s : State) :
    Host.Outcome State Fault Refusal :=
  finish (s.receive (.releaseFrame source f) source
    (fun s => (if s.hearsSegment f.segment then s.hearRelease source f else s, [])))

/-- RUN_TABLE_EXPIRY (R128): the entry leaves when its expiry moment has come. -/
def execRunTableExpiry (node : Addr) (c : Chan) (s : State) : Host.Outcome State Fault Refusal :=
  finish (s.setRuns (s.rsu.table.filter (fun e => !(e.isFor node.toNat c && decide (e.expiry ≤ s.now)))), [])

/-- The claim window ends with a free slot (R135): HELD, renewed at once when the values have changed. -/
def State.grantHeld (s : State) (c : Chan) : Eff :=
  let r := s.claim c
  let s1 := s.setClaim c { r with state := .held, window := none }
  (if r.current = r.announcedVals then s1 else s1.renewClaim c r.vals, [.granted c])

/-- The claim window ends with no free slot (R135, R136). -/
def State.withdrawAtWindow (s : State) (c : Chan) : State :=
  let r := s.claim c
  (s.setClaim c { r with
    state := .waiting, window := none
    retry := some (s.now + (2000 + s.straps.address.toNat * 20)) }).sendRelease c r.token .withdrawn

/-- The claim window of a channel ends (R134, R135). -/
def State.endClaimWindow (s : State) (c : Chan) : Eff :=
  if (s.claim c).state ≠ .claiming then (s.setClaim c { s.claim c with window := none }, [])
  else if s.occupied c < s.rsu.working then s.grantHeld c
  else (s.withdrawAtWindow c, [])

/-- CLAIM_WINDOW_END (R135). -/
def execClaimWindowEnd (c : Chan) (s : State) : Host.Outcome State Fault Refusal :=
  finish (s.onChannel c (fun s =>
    if s.dueAt (s.claim c).window then s.endClaimWindow c else (s, [])))

/-- The stagger timer of a WAITING claim ends (R136). -/
def State.endStagger (s : State) (c : Chan) : State :=
  let s1 := s.setClaim c { s.claim c with stagger := none }
  if (s.claim c).state = .waiting ∧ s.others c < s.rsu.working then s1.makeClaim c else s1

/-- STAGGER_END (R136). -/
def execStaggerEnd (c : Chan) (s : State) : Host.Outcome State Fault Refusal :=
  finish (s.onChannel c (fun s => (if s.dueAt (s.claim c).stagger then s.endStagger c else s, [])))

/-- The retry timer of a WAITING claim ends (R136). -/
def State.endClaimRetry (s : State) (c : Chan) : State :=
  let s1 := s.setClaim c { s.claim c with retry := none }
  if (s.claim c).state = .waiting then s1.makeClaim c else s1

/-- CLAIM_RETRY_EXPIRY (R136). -/
def execClaimRetryExpiry (c : Chan) (s : State) : Host.Outcome State Fault Refusal :=
  finish (s.onChannel c (fun s => (if s.dueAt (s.claim c).retry then s.endClaimRetry c else s, [])))

end Sys2Proof.Machine
end

