-- ==== Sys2Proof/Machine/ExecStart.lean ====
section
/-! DEFINITION. Meanings of the commands of reset, start-up, commissioning and the status interval
(10_status_reporting.md, 11_start_up_and_configuration.md). -/

namespace Sys2Proof.Machine

open Sys2Proof

/-- POWER_ON_RESET (R181). -/
def execPowerOnReset (s : State) : Host.Outcome State Fault Refusal := finish (s.hold, [])

/-- RESET_N (R181). -/
def execResetN (s : State) : Host.Outcome State Fault Refusal := finish (s.hold, [])

/-- RESET_RELEASE (R181, R182): only a node held in reset is released. -/
def execResetRelease (address : Addr) (role : BitVec 2) (commissioning readable : Bool) (s : State) :
    Host.Outcome State Fault Refusal :=
  finish (if s.phase = .held then s.release address role commissioning readable else s, [])

/-- CALIBRATION_END (R184, R185). -/
def execCalibrationEnd (c : Chan) (mean : Byte) (s : State) : Host.Outcome State Fault Refusal :=
  finish (s.endCalibration c mean.toNat)

/-- LISTEN_IN_END (R185). -/
def execListenInEnd (s : State) : Host.Outcome State Fault Refusal := finish s.endListenIn

/-- STATUS_INTERVAL_EXPIRY (R174): the timer asks for a STATE frame and restarts. -/
def execStatusIntervalExpiry (s : State) : Host.Outcome State Fault Refusal :=
  finish
    (if s.dueAt s.rep.interval then (s.startInterval.requestReport, []) else (s, []))

/-- CONFIG_DATA (R159, R187). -/
def execConfigData (source : Addr) (target offset : Byte) (data : List Byte) (s : State) :
    Host.Outcome State Fault Refusal :=
  finish (s.receive (.configData source target offset data) source
    (fun s => (s.takePiece target offset data, [])))

/-- CONFIG_COMMIT (R159, R188). -/
def execConfigCommit (source : Addr) (target : Byte) (crc : Half) (s : State) :
    Host.Outcome State Fault Refusal :=
  finish (s.receive (.configCommit source target crc) source (fun s => (s.takeCommit target crc, [])))

/-- STORE_WRITE_END (R188). -/
def execStoreWriteEnd (readback : List Byte) (s : State) : Host.Outcome State Fault Refusal :=
  finish (s.endWrite readback, [])

end Sys2Proof.Machine
end

