-- ==== Sys2Proof/Machine/ExecWeather.lean ====
section
/-! DEFINITION. Meanings of the commands of the Weather Inputs, the Source Table and the Threat Unit
(01_local_weather_measurement.md, 02_weather_sources_and_the_picture.md, 03_threat_levels.md). -/

namespace Sys2Proof.Machine

open Sys2Proof

/-- The window count after an edge saturates at 65535 (R1). -/
def countEdge (count : Nat) : Nat := min 65535 (count + 1)

/-- ANEMOMETER_EDGE (R1). -/
def execAnemometerEdge (s : State) : Host.Outcome State Fault Refusal :=
  finish (if s.wxiActive then s.setWxi { s.wxi with count := countEdge s.wxi.count } else s, [])

/-- SAMPLE_WINDOW_END (R1 to R7, R11, R15, R16). -/
def execSampleWindowEnd (vane : BitVec 4) (s : State) : Host.Outcome State Fault Refusal :=
  finish (if s.wxiActive && s.wxi.windowEnd.isSome then s.endWindow vane else (s, []))

/-- The edge comes within 250 ms of the previous active edge (R8). -/
def State.chatters (s : State) : Bool :=
  match s.wxi.prevEdge with
  | some t => decide (s.now - t < 250)
  | none => false

/-- An active edge of the rain input in EVENT mode (R8, R13). -/
def State.takeRainEdge (s : State) : State :=
  let s1 := s.setWxi { s.wxi with prevEdge := some s.now }
  if s.chatters then
    s1.setWxi { s1.wxi with rainOk := false, recovery := some (s.now + 600000) }
  else s1.countRain

/-- RAIN_EDGE (R8): only active edges in EVENT mode are examined. -/
def execRainEdge (rising : Bool) (s : State) : Host.Outcome State Fault Refusal :=
  finish
    (if s.wxiActive && s.config.rainMode == .event && rising == s.config.rainRising then s.takeRainEdge
    else s, [])

/-- RAIN_TICK (R9): only in GATED mode. -/
def execRainTick (s : State) : Host.Outcome State Fault Refusal :=
  finish
    (if s.wxiActive && s.config.rainMode == .gated then
      let s1 := s.setWxi { s.wxi with rainTickAt := some (s.now + 125) }
      if s1.rainWet then s1.countRain else s1
    else s, [])

/-- RAIN_RECOVERY_EXPIRY (R13). -/
def execRainRecoveryExpiry (s : State) : Host.Outcome State Fault Refusal :=
  finish
    (if s.dueAt s.wxi.recovery then s.setWxi { s.wxi with rainOk := true, recovery := none } else s, [])

/-- The wet-duration timer follows a change of the rain input's level in GATED mode (R14). -/
def State.takeRainLevel (s : State) : State :=
  if s.rainWet then s.setWxi { s.wxi with wetTimer := some (s.now + 43200000) }
  else s.setWxi { s.wxi with wetTimer := none, rainOk := true }

/-- RAIN_LEVEL_CHANGE (R14): the input takes the level; only a change in GATED mode acts. -/
def execRainLevelChange (high : Bool) (s : State) : Host.Outcome State Fault Refusal :=
  let s1 := { s with pins := { s.pins with rainHigh := high } }
  finish
    (if s1.wxiActive && s1.config.rainMode == .gated && high != s.pins.rainHigh then s1.takeRainLevel
    else s1, [])

/-- WET_DURATION_EXPIRY (R14). -/
def execWetDurationExpiry (s : State) : Host.Outcome State Fault Refusal :=
  finish
    (if s.dueAt s.wxi.wetTimer then s.setWxi { s.wxi with rainOk := false, wetTimer := none } else s, [])

/-- WEATHER_FRAME (R23, R159). -/
def execWeatherFrame (source : Addr) (f : WeatherFields) (s : State) :
    Host.Outcome State Fault Refusal :=
  finish (s.receive (.weatherFrame source f) source
    (fun s => if s.loaded then s.takeWeather source.toNat f else (s, [])))

/-- STALE_TIMER_EXPIRY (R26). -/
def execStaleTimerExpiry (entry : Fin 8) (s : State) : Host.Outcome State Fault Refusal :=
  finish (s.expireSource entry.val)

/-- RELEASE_HOLD_EXPIRY (R48). -/
def execReleaseHoldExpiry (c : Chan) (s : State) : Host.Outcome State Fault Refusal :=
  finish (s.expireHold c)

end Sys2Proof.Machine
end

