-- ==== Sys2Proof/Machine/Clock.lean ====
section
/-! DEFINITION. The node's own time base (00_scope.md, Times; log 1 to 3): what the idle step does. An
expiry that has come due is queued, one at a time, and when none is due the clock advances by 1 ms. -/

namespace Sys2Proof.Machine

open Sys2Proof

/-- The command of a condition that holds. -/
def dueIf (cond : Bool) (i : Instr) : List Instr := if cond then [i] else []

/-- The end of calibration of the channel being calibrated, with the reading the outside then shows (R184;
log 13). -/
def State.dueCalibration (s : State) : List Instr :=
  let c := s.calLeft.headD .c0
  dueIf (s.phase == .calibrating && s.dueAt s.calAt) (.calibrationEnd c (Config.currentReading s.now c))

/-- The expiries of WXI that are due (R1, R9, R13, R14). -/
def State.dueWeather (s : State) : List Instr :=
  dueIf (s.wxiActive && s.dueAt s.wxi.windowEnd) (.sampleWindowEnd (Config.vaneInputs s.now))
    ++ dueIf (s.wxiActive && s.config.rainMode == .gated && s.dueAt s.wxi.rainTickAt) .rainTick
    ++ dueIf (s.dueAt s.wxi.recovery) .rainRecoveryExpiry
    ++ dueIf (s.dueAt s.wxi.wetTimer) .wetDurationExpiry

/-- A LIVE entry's stale timer has run out (R26). -/
def State.staleDue (s : State) (k : Fin 8) : Bool :=
  match s.src.entries[k.val]? with
  | none => false
  | some e => s.stale e

/-- The stale timers that are due. -/
def State.dueSources (s : State) : List Instr :=
  ((List.finRange 8).filter s.staleDue).map Instr.staleTimerExpiry

/-- The expiries of a Drive Channel that are due (R89, R92, R94, R97, R112, R113, R118). -/
def State.dueChannel (s : State) (c : Chan) : List Instr :=
  let ch := s.chan c
  dueIf (ch.runState == .starting && s.dueAt ch.rampMid) (.rampMidpoint c)
    ++ dueIf (ch.runState == .starting && s.dueAt ch.rampEnd) (.rampEnd c)
    ++ dueIf (ch.runState == .coasting && s.dueAt ch.coast) (.coastEnd c)
    ++ dueIf (ch.runState == .dwell && s.dueAt ch.dwell) (.dwellEnd c)
    ++ dueIf (s.overrunDue c) (.overrun c)
    ++ dueIf (s.energised c && s.dueAt ch.stall) (.stallTimerExpiry c)
    ++ dueIf (s.energised c && s.dueAt ch.overcurrent) (.overcurrentTimerExpiry c)
    ++ dueIf (ch.runState == .blocked && s.dueAt ch.retry) (.retryDelayExpiry c)

/-- The expiries of the threat record, the ORDER entry and the claim of a channel that are due (R48, R67,
R135, R136). -/
def State.dueRequests (s : State) (c : Chan) : List Instr :=
  dueIf (s.dueAt (s.thr.get c).hold) (.releaseHoldExpiry c)
    ++ dueIf (s.dueAt ((s.table c).order.bind Entry.expiry)) (.orderExpiry c)
    ++ dueIf (s.dueAt (s.claim c).window) (.claimWindowEnd c)
    ++ dueIf (s.dueAt (s.claim c).stagger) (.staggerEnd c)
    ++ dueIf (s.dueAt (s.claim c).retry) (.claimRetryExpiry c)

/-- Everything of a present channel that is due. -/
def State.dueOf (s : State) (c : Chan) : List Instr :=
  if s.present c then s.dueRequests c ++ s.dueChannel c else []

/-- The entries of the run table whose expiry has come (R128). -/
def State.dueEntries (s : State) : List Instr :=
  (s.rsu.table.filter (fun e => decide (e.expiry ≤ s.now))).map
    (fun e => Instr.runTableExpiry (BitVec.ofNat 6 e.node) e.chan)

/-- What is due now, in the order in which the idle step takes it (log 3): accepted frames, then expiries. -/
def State.due (s : State) : List Instr :=
  s.lin.accepted ++ s.dueCalibration
    ++ dueIf (s.phase == .listenIn && s.dueAt s.listenInAt) .listenInEnd
    ++ s.dueWeather ++ s.dueSources ++ s.dueOf .c0 ++ s.dueOf .c1
    ++ dueIf (s.driveActive && s.supply.status == .recovering && s.dueAt s.supply.qualify)
      .supplyQualified
    ++ s.dueEntries
    ++ dueIf (s.dueAt s.lin.stuckTimer) .stuckTimerExpiry
    ++ dueIf (s.dueAt s.rep.interval) .statusIntervalExpiry

/-- The overrun clock runs while the driver is energised (R94). -/
def Channel.tick (ch : Channel) : Channel :=
  if ch.runState.energised then { ch with overrunMs := ch.overrunMs + 1 } else ch

/-- 1 ms passes. -/
def State.advance (s : State) : State :=
  { s with now := s.now + 1, dch := { c0 := s.dch.c0.tick, c1 := s.dch.c1.tick } }

/-- The idle step: the first thing due is queued, or 1 ms passes. -/
def State.idle (s : State) : State :=
  match s.due with
  | i :: _ => { s with pending := [i] }
  | [] => s.advance

end Sys2Proof.Machine
end

