-- ==== Sys2Proof/Machine/Dispatch.lean ====
section
/-! DEFINITION. The dispatch of commands to their meanings, in the order of spec/opcode_table.json. -/

namespace Sys2Proof.Machine

open Sys2Proof

/-- The effect of a command on everything but the queue. -/
def exec (i : Instr) (s : State) : Host.Outcome State Fault Refusal :=
  match i with
  | .powerOnReset => Sys2Proof.Machine.execPowerOnReset s
  | .resetN => Sys2Proof.Machine.execResetN s
  | .resetRelease address role commissioning readable => Sys2Proof.Machine.execResetRelease address role commissioning readable s
  | .calibrationEnd c mean => Sys2Proof.Machine.execCalibrationEnd c mean s
  | .listenInEnd => Sys2Proof.Machine.execListenInEnd s
  | .anemometerEdge => Sys2Proof.Machine.execAnemometerEdge s
  | .sampleWindowEnd vane => Sys2Proof.Machine.execSampleWindowEnd vane s
  | .rainEdge rising => Sys2Proof.Machine.execRainEdge rising s
  | .rainTick => Sys2Proof.Machine.execRainTick s
  | .rainRecoveryExpiry => Sys2Proof.Machine.execRainRecoveryExpiry s
  | .rainLevelChange high => Sys2Proof.Machine.execRainLevelChange high s
  | .wetDurationExpiry => Sys2Proof.Machine.execWetDurationExpiry s
  | .weatherFrame source f => Sys2Proof.Machine.execWeatherFrame source f s
  | .staleTimerExpiry entry => Sys2Proof.Machine.execStaleTimerExpiry entry s
  | .releaseHoldExpiry c => Sys2Proof.Machine.execReleaseHoldExpiry c s
  | .orderClose source f => Sys2Proof.Machine.execOrderClose source f s
  | .orderOpen source f => Sys2Proof.Machine.execOrderOpen source f s
  | .orderStop source f => Sys2Proof.Machine.execOrderStop source f s
  | .orderShutFor source f => Sys2Proof.Machine.execOrderShutFor source f s
  | .orderUnlatch source f => Sys2Proof.Machine.execOrderUnlatch source f s
  | .orderResetFault source f => Sys2Proof.Machine.execOrderResetFault source f s
  | .orderUnknownAction source action f => Sys2Proof.Machine.execOrderUnknownAction source action f s
  | .orderExpiry c => Sys2Proof.Machine.execOrderExpiry c s
  | .panelOpenPress c => Sys2Proof.Machine.execPanelOpenPress c s
  | .panelClosePress c => Sys2Proof.Machine.execPanelClosePress c s
  | .ackPress => Sys2Proof.Machine.execAckPress s
  | .zoneClosePress => Sys2Proof.Machine.execZoneClosePress s
  | .keySwitchChange toLocal => Sys2Proof.Machine.execKeySwitchChange toLocal s
  | .encoderPulse c => Sys2Proof.Machine.execEncoderPulse c s
  | .closedLimitChange c active => Sys2Proof.Machine.execClosedLimitChange c active s
  | .openLimitActive c active => Sys2Proof.Machine.execOpenLimitActive c active s
  | .rampMidpoint c => Sys2Proof.Machine.execRampMidpoint c s
  | .rampEnd c => Sys2Proof.Machine.execRampEnd c s
  | .coastEnd c => Sys2Proof.Machine.execCoastEnd c s
  | .dwellEnd c => Sys2Proof.Machine.execDwellEnd c s
  | .overrun c => Sys2Proof.Machine.execOverrun c s
  | .supplyLow => Sys2Proof.Machine.execSupplyLow s
  | .supplyReturn => Sys2Proof.Machine.execSupplyReturn s
  | .supplyQualified => Sys2Proof.Machine.execSupplyQualified s
  | .markerEdge c => Sys2Proof.Machine.execMarkerEdge c s
  | .stallTimerExpiry c => Sys2Proof.Machine.execStallTimerExpiry c s
  | .overcurrentChange c sensed => Sys2Proof.Machine.execOvercurrentChange c sensed s
  | .overcurrentTimerExpiry c => Sys2Proof.Machine.execOvercurrentTimerExpiry c s
  | .safetyEdgeActive c active => Sys2Proof.Machine.execSafetyEdgeActive c active s
  | .retryDelayExpiry c => Sys2Proof.Machine.execRetryDelayExpiry c s
  | .claimFrame source f => Sys2Proof.Machine.execClaimFrame source f s
  | .releaseFrame source f => Sys2Proof.Machine.execReleaseFrame source f s
  | .runTableExpiry node c => Sys2Proof.Machine.execRunTableExpiry node c s
  | .claimWindowEnd c => Sys2Proof.Machine.execClaimWindowEnd c s
  | .staggerEnd c => Sys2Proof.Machine.execStaggerEnd c s
  | .claimRetryExpiry c => Sys2Proof.Machine.execClaimRetryExpiry c s
  | .lineQuiet => Sys2Proof.Machine.execLineQuiet s
  | .attemptStart slot => Sys2Proof.Machine.execAttemptStart slot s
  | .collision => Sys2Proof.Machine.execCollision s
  | .attemptComplete => Sys2Proof.Machine.execAttemptComplete s
  | .stuckTimerExpiry => Sys2Proof.Machine.execStuckTimerExpiry s
  | .addressConflict => Sys2Proof.Machine.execAddressConflict s
  | .stateFrame source payload => Sys2Proof.Machine.execStateFrame source payload s
  | .statusIntervalExpiry => Sys2Proof.Machine.execStatusIntervalExpiry s
  | .configData source target offset data => Sys2Proof.Machine.execConfigData source target offset data s
  | .configCommit source target crc => Sys2Proof.Machine.execConfigCommit source target crc s
  | .storeWriteEnd readback => Sys2Proof.Machine.execStoreWriteEnd readback s
  | .byteReceived b framingError => Sys2Proof.Machine.execByteReceived b framingError s
  | .lineLevelChange dominant => Sys2Proof.Machine.execLineLevelChange dominant s

end Sys2Proof.Machine
end

