-- ==== Sys2Proof/Safety.lean ====
section
/-! DEFINITION. What counts as a safe node: the laws the manual says its state keeps at all times, each as a
predicate of the state; and the terms in which statements say what a command leaves unchanged. -/

namespace Sys2Proof.Machine

open Sys2Proof

/-! ### Terms of frames -/

/-- The Line Interface with its transmit queue set to fixed values. -/
def Lin.base (l : Lin) : Lin := { l with queue := .reset, ages := 0, attempt := none }

/-- The Run Slot Unit with its claims set to fixed values. -/
def Rsu.base (r : Rsu) : Rsu := { r with tokenCounter := 0, claims := { c0 := .reset, c1 := .reset } }

/-- The state without what the signals between REQ, DCH, RSU and the transmit queue may change: the request
tables, the Drive Channels, the claims with their token counter, the queue and the status output, all set to
fixed values. Equal bases say that everything else is equal. -/
def State.base (s : State) : State :=
  { s with
    req := .reset, dch := { c0 := .reset, c1 := .reset }, rsu := s.rsu.base, lin := s.lin.base
    rep := { s.rep with released := true } }

/-- What an entry asks, without its arrival order, which a renumbering changes (R55, R56). -/
def Entry.what (e : Entry) : Action × Class × Option Nat := (e.action, e.cls, e.expiry)

/-- What the entry of an origin asks of a channel, if it is present. -/
def State.asks (s : State) (c : Chan) (o : Origin) : Option (Action × Class × Option Nat) :=
  ((s.table c).get o).map Entry.what

/-- The record without its standing request, which a hand-over stores in every run state (R83). -/
def Channel.still (ch : Channel) : Channel := { ch with standing := none }

/-- The record of a coasting channel without what a hand-over changes during a coast (R98). -/
def Channel.coasting (ch : Channel) : Channel :=
  { ch with standing := none, continuation := .none, headed := none, estimate := none
            claimedJob := none, overrunMs := 0 }

/-- What a change of the held level makes of an entry (R62, R63): an OPEN goes when the level rises to CLOSE
or above, and is clamped when it becomes WATCH. -/
def treated (was now : Level) (limit : Nat) (e : Option Entry) : Option Entry :=
  if now = was then e
  else if now.shut && !was.shut then dropOpen e
  else if now = .watch then e.map (Entry.clampOpen limit)
  else e

/-- What the WEATHER entry asks after a change of the held level (R52). -/
def posted (was now : Level) (limit : Nat) (e : Option Entry) : Option (Action × Class × Option Nat) :=
  if now = was then e.map Entry.what
  else
    match now with
    | .severe => some (.close, .storm, none)
    | .close => some (.close, .weather, none)
    | .watch => if was.shut then none else (e.map (Entry.clampOpen limit)).map Entry.what
    | .calm => if was.shut then none else e.map Entry.what

/-- From `s` to `t` the reporting functions have asked for a STATE frame, class ROUTINE (R174, R175), in a node that
may queue one: it enters the empty place with attempt count 0, replaces the frame that is not on the line at that
frame's class, attempt count and age, its content to be taken anew, and behind an attempt in progress it waits as
the successor, the frame on the line as it was (R151, R152, R154). -/
def State.ReportAsked (s t : State) : Prop :=
  t.loaded = true → t.lin.conflict = false →
    let x := s.lin.queue.report
    let y := t.lin.queue.report;
    (x.frame = none → ∃ g, y.frame = some g ∧ g.urgent = false ∧ g.attempts = 0 ∧ g.content = none ∧
      (s.lin.attempt ≠ some .report → y.successor = x.successor)) ∧
    (∀ f, x.frame = some f → s.lin.attempt ≠ some .report →
      y = { frame := some { f with content := none }, successor := x.successor }) ∧
    (∀ f, x.frame = some f → s.lin.attempt = some .report →
      y = { frame := some f
            successor := some { urgent := x.successor.any TxRequest.urgent, content := none } })

/-- From `s` to `t` something has changed for which a STATE frame is due (R175): a run state that has become IDLE,
BLOCKED or FAULT, a held level, the picture status, the line state, the key switch or the commit outcome. -/
def State.ReportDue (s t : State) : Prop :=
  (∃ c, (t.chan c).runState ≠ (s.chan c).runState ∧ ((t.chan c).runState = .idle ∨
    (t.chan c).runState = .blocked ∨ (t.chan c).runState = .fault)) ∨
  (∃ c, t.held c ≠ s.held c) ∨ t.src.picture.status ≠ s.src.picture.status ∨
  t.lineIsolated ≠ s.lineIsolated ∨ t.pins.keyLocal ≠ s.pins.keyLocal ∨ t.rep.outcome ≠ s.rep.outcome

/-- From `s` to `t` the request tables have heard of every change of a held level, and of nothing else
(R52, R63), and for such a change a STATE frame is asked for (R175). -/
def State.TablesHear (s t : State) : Prop :=
  (∀ c, t.asks c .weather = posted (s.held c) (t.held c) s.config.watchLimit (s.table c).weather ∧
    t.asks c .order
      = (treated (s.held c) (t.held c) s.config.watchLimit (s.table c).order).map Entry.what ∧
    t.asks c .panel
      = (treated (s.held c) (t.held c) s.config.watchLimit (s.table c).panel).map Entry.what) ∧
  ((∃ c, t.held c ≠ s.held c) → s.ReportAsked t)

/-- From `s` to `t` the source entries have become `entries`, the picture and the threat records follow them
(R29, R35, R39, R40), a STATE frame is asked for when the picture status has changed (R175), and the request tables
follow the held levels. -/
def State.Recomputed (s t : State) (entries : List SourceEntry) : Prop :=
  t.src = { entries := entries, picture := pictureOf entries (s.phase == .running) } ∧
    (∀ c, t.thr.get c =
      if s.present c = true ∧ s.phase = .running then
        (s.thr.get c).apply (s.setting c).latchMode (s.config.tRel * 60000) s.now
          (rawLevel s.config (s.setting c) t.src.picture)
      else s.thr.get c) ∧
    (t.src.picture.status ≠ s.src.picture.status → s.ReportAsked t) ∧
    s.TablesHear t

/-- The rain figures follow the minute ring and the level of the rain input (R12). -/
def State.RainFiguresFit (s : State) : Prop :=
  let recent := (s.wxi.minuteRing.take 2).sum
  let amount := s.wxi.minuteRing.sum
  s.wxi.amount = amount ∧
    (s.wxi.heavy = true ↔ s.config.rOn ≤ recent ∧ s.config.rHeavy ≤ recent) ∧
    s.wxi.rain =
      if s.config.rOn ≤ recent then .rain
      else if 0 < amount ∨ (s.config.rainMode = .gated ∧ s.pins.rainHigh = s.config.wetHigh) then .wet
      else .dry

/-- From `s` to `t` the rain counter has taken one increment, and at the compare value has made one rain unit
(R10). -/
def State.RainCounted (s t : State) : Prop :=
  if s.wxi.rainCounter + 1 < s.config.compare then
    t.wxi.rainCounter = s.wxi.rainCounter + 1 ∧ t.wxi.minuteRing = s.wxi.minuteRing ∧
      t.wxi.rain = s.wxi.rain ∧ t.wxi.heavy = s.wxi.heavy ∧ t.wxi.amount = s.wxi.amount
  else
    t.wxi.rainCounter = 0 ∧
      t.wxi.minuteRing = s.wxi.minuteRing.modifyHead (fun b => min 255 (b + 1)) ∧ t.RainFiguresFit

/-- From `s` to `t` Weather Inputs have made their publication requests, those of the flags that stand (R15,
R16), and these have been taken by the publication state and the merge rule of R17: the latest event cause, or
PERIODIC where there is none, and class URGENT with any event. -/
def State.PublicationTakes (s t : State) (rainChange periodic gustLevel : Bool) : Prop :=
  let asked := s.publishes && (rainChange || periodic || gustLevel)
  let urgent := rainChange || gustLevel
  let wanted : Cause := if gustLevel then .gustLevel else if rainChange then .rainChange else .periodic
  let merged : Option Cause → Cause := fun old =>
    if wanted = .periodic then old.getD .periodic else wanted;
  (asked = false → t.wxi.pub = s.wxi.pub ∧ t.wxi.cause = s.wxi.cause ∧ t.wxi.deferred = s.wxi.deferred ∧
    t.lin.queue.weather = s.lin.queue.weather) ∧
  (asked = true → s.wxi.pub = .sending → t.wxi.pub = .sending ∧ t.wxi.cause = s.wxi.cause ∧
    t.wxi.deferred = some (urgent || s.wxi.deferred.any Prod.fst, merged (s.wxi.deferred.map Prod.snd)) ∧
    t.lin.queue.weather = s.lin.queue.weather) ∧
  (asked = true → s.wxi.pub ≠ .sending → s.lin.conflict = false → s.lin.attempt ≠ some .weather →
    t.wxi.pub = .queued ∧ t.wxi.deferred = s.wxi.deferred ∧
    t.wxi.cause = some (if s.wxi.pub = .idle then wanted else merged s.wxi.cause) ∧
    t.lin.queue.weather.successor = s.lin.queue.weather.successor ∧
    ∃ x, t.lin.queue.weather.frame = some x ∧ x.content = none ∧
      x.urgent = (urgent || s.lin.queue.weather.frame.any TxFrame.urgent) ∧
      x.attempts = (s.lin.queue.weather.frame.map TxFrame.attempts).getD 0)

/-- From `s` to `t` nothing has changed but Weather Inputs, and of these only the rain counter, figures and
timers and the publication, in which a change of the rain state makes its request. -/
def State.OnlyRain (s t : State) : Prop :=
  s.PublicationTakes t (t.wxi.rain != s.wxi.rain) false false ∧
  t = { s with wxi := t.wxi, lin := t.lin, rep := t.rep } ∧ t.lin.base = s.lin.base ∧
    t.rep = { s.rep with released := t.outputLevel } ∧
    (∀ p, p ≠ .weather → t.lin.queue.get p = s.lin.queue.get p) ∧
    { t.wxi with
        rainCounter := s.wxi.rainCounter, minuteRing := s.wxi.minuteRing, rain := s.wxi.rain
        heavy := s.wxi.heavy, amount := s.wxi.amount, rainOk := s.wxi.rainOk
        recovery := s.wxi.recovery, prevEdge := s.wxi.prevEdge, rainTickAt := s.wxi.rainTickAt
        pub := s.wxi.pub, cause := s.wxi.cause, deferred := s.wxi.deferred } = s.wxi

/-- A frame from the source reaches the node's blocks as another station's: the straps are latched and the
source is a station address other than the node's own (R157, R158). -/
def State.Hears (s : State) (source : Addr) : Prop :=
  s.phase ≠ .held ∧ source.isStation = true ∧ source ≠ s.straps.address

/-- The state with an accepted frame taken off the frames that wait to be acted on. -/
def State.taken (s : State) (i : Instr) : State :=
  { s with lin := { s.lin with accepted := s.lin.accepted.erase i } }

/-- The command is an expiry whose timer runs in the state and whose moment has come. The readings that an expiry
carries are those of the moment (log 13). No other command comes with the time. -/
def State.TimeFor (s : State) (i : Instr) : Prop :=
  let past := fun timer : Option Nat => ∃ m, timer = some m ∧ m ≤ s.now
  match i with
  | .calibrationEnd c mean => s.phase = .calibrating ∧ past s.calAt ∧ c = s.calLeft.headD .c0 ∧
      mean = Config.currentReading s.now c
  | .listenInEnd => s.phase = .listenIn ∧ past s.listenInAt
  | .sampleWindowEnd vane => s.wxiActive = true ∧ past s.wxi.windowEnd ∧ vane = Config.vaneInputs s.now
  | .rainTick => s.wxiActive = true ∧ s.config.rainMode = .gated ∧ past s.wxi.rainTickAt
  | .rainRecoveryExpiry => past s.wxi.recovery
  | .wetDurationExpiry => past s.wxi.wetTimer
  | .staleTimerExpiry k => s.driveActive = true ∧ ∃ e, s.src.entries[k.val]? = some e ∧ e.status = .live ∧
      ∃ m, e.acceptedAt = some m ∧ m + s.config.tStale * 1000 ≤ s.now
  | .releaseHoldExpiry c => s.present c = true ∧ past (s.thr.get c).hold
  | .orderExpiry c => s.present c = true ∧
      ∃ e, (s.table c).order = some e ∧ past e.expiry
  | .claimWindowEnd c => s.present c = true ∧ past (s.claim c).window
  | .staggerEnd c => s.present c = true ∧ past (s.claim c).stagger
  | .claimRetryExpiry c => s.present c = true ∧ past (s.claim c).retry
  | .rampMidpoint c => s.present c = true ∧ (s.chan c).runState = .starting ∧ past (s.chan c).rampMid
  | .rampEnd c => s.present c = true ∧ (s.chan c).runState = .starting ∧ past (s.chan c).rampEnd
  | .coastEnd c => s.present c = true ∧ (s.chan c).runState = .coasting ∧ past (s.chan c).coast
  | .dwellEnd c => s.present c = true ∧ (s.chan c).runState = .dwell ∧ past (s.chan c).dwell
  | .overrun c => s.present c = true ∧ (s.chan c).runState.energised = true ∧
      ∃ e, (s.chan c).estimate = some e ∧ 2000 * e ≤ (s.chan c).overrunMs
  | .stallTimerExpiry c => s.present c = true ∧ (s.chan c).runState.energised = true ∧
      past (s.chan c).stall
  | .overcurrentTimerExpiry c => s.present c = true ∧ (s.chan c).runState.energised = true ∧
      past (s.chan c).overcurrent
  | .retryDelayExpiry c => s.present c = true ∧ (s.chan c).runState = .blocked ∧ past (s.chan c).retry
  | .supplyQualified => s.driveActive = true ∧ s.supply.status = .recovering ∧ past s.supply.qualify
  | .runTableExpiry node c => ∃ e ∈ s.rsu.table, e.expiry ≤ s.now ∧ node = BitVec.ofNat 6 e.node ∧ c = e.chan
  | .stuckTimerExpiry => past s.lin.stuckTimer
  | .statusIntervalExpiry => past s.rep.interval
  | _ => False

/-- The zone of an ORDER frame matches a present channel: at every position that both masks select, code and
base carry the same value (R65). -/
def State.InZone (s : State) (f : OrderFields) (c : Chan) : Prop :=
  s.present c = true ∧ ∀ k < 16,
    f.zoneMask.getLsbD k = true → (s.setting c).zoneMask.getLsbD k = true →
      f.zoneCode.getLsbD k = (s.setting c).zoneBase.getLsbD k

/-- The frame of a place is a CLAIM of the channel with the given token, values and renew flag, class URGENT
(R131, R137, R142). -/
def State.ClaimQueued (s : State) (c : Chan) (token : Nat) (v : ClaimVals) (renew : Byte) : Prop :=
  ∃ x, (s.lin.queue.get (.claim c)).frame = some x ∧ x.urgent = true ∧
    x.content = some (.claim {
      segment := BitVec.ofNat 8 s.config.segment, channel := BitVec.ofNat 8 (chanNat c)
      cls := BitVec.ofNat 8 v.cls.rank, token := BitVec.ofNat 8 token
      estimate := BitVec.ofNat 8 v.estimate, capacity := BitVec.ofNat 8 s.config.capacity
      renew := renew })

/-- The frame of a place is a RELEASE of the channel with the given token and outcome, class URGENT (R133,
R142). -/
def State.ReleaseQueued (s : State) (c : Chan) (token : Nat) (o : ReleaseOutcome) : Prop :=
  ∃ x, (s.lin.queue.get (.release c)).frame = some x ∧ x.urgent = true ∧
    x.content = some (.release {
      segment := BitVec.ofNat 8 s.config.segment, channel := BitVec.ofNat 8 (chanNat c)
      token := BitVec.ofNat 8 token, outcome := BitVec.ofNat 8 o.code })

/-- The fields of a CLAIM. -/
def Content.claim? : Content → Option ClaimFields
  | .claim f => some f
  | _ => none

/-- The fields of a RELEASE. -/
def Content.release? : Content → Option ReleaseFields
  | .release f => some f
  | _ => none

/-- From `s` to `t` a HELD claim has been released with an outcome: the RELEASE is queued, where the line takes it
and nothing of the channel stands in the queue, or owed in isolated operation (R138, R139, R140). -/
def State.Released (s t : State) (c : Chan) (o : ReleaseOutcome) : Prop :=
  (s.claim c).state = .held →
    (s.isolated = true → (t.claim c).owedRelease = some ((s.claim c).token, o)) ∧
    (s.isolated = false → s.lin.conflict = false → s.lin.queue.get (.claim c) = .reset →
      s.lin.queue.get (.release c) = .reset → t.ReleaseQueued c (s.claim c).token o)

/-- From `s` to `t` a run has ended with the cause it was headed for: recorded, the failure count 0 after DONE,
one more after a failure and kept otherwise, the driver off and the slot given up with the cause's outcome (R95,
R117, R139); and as the run state became IDLE, BLOCKED or FAULT, which it does but for a run that waits for the
supply, a STATE frame is asked for (R175). -/
def State.RunEnded (s t : State) (c : Chan) (h : Heading) : Prop :=
  (t.chan c).lastEnd = h.cause ∧
  (t.chan c).failures = (match h with
    | .done => 0
    | .fault _ => min 3 ((s.chan c).failures + 1)
    | _ => (s.chan c).failures) ∧
  (t.chan c).runState.energised = false ∧
  (t.claim c).state ≠ .held ∧ (t.claim c).state ≠ .localRun ∧
  (h = .done → s.Released t c .done) ∧
  (h = .stopped ∨ h = .positionLost → s.Released t c .stopped) ∧
  (h = .supply → s.Released t c .supply) ∧
  (∀ kind, h = .fault kind → s.Released t c .fault) ∧
  (h ≠ .supply ∨ s.supply.status = .good → s.ReportAsked t)

/-- The channel's request rests: none is effective, or the one in effect, which is the standing one, is a STOP or
finds the opening where it asks (R59, R61, R84). -/
def State.Rests (s : State) (c : Chan) : Prop :=
  (s.table c).service = none ∧
    match s.effectiveEntry c, (s.chan c).standing with
    | none, none => True
    | some (_, e), some h => h.action = e.action ∧ (e.action = .stop ∨ s.satisfied c e.action = true)
    | _, _ => False

/-- No run of the channel can begin within the command that ends one: the supply is not GOOD, a claim must go
out first, or the channel's request rests (R84, R88, R131, R141). -/
def State.NoRunAtOnce (s : State) (c : Chan) : Prop :=
  s.supply.status ≠ .good ∨ s.isolated = false ∨ s.Rests c

/-- From `s` to `t` an entry into isolated operation has recorded what the channel's frames, taken off the queue,
would have told the segment (R140, R143): a RELEASE is owed if its claim was announced, a renewing CLAIM is owed
as a renewal, and an announced claim that waited for its window is owed as WITHDRAWN. Said for places without a
successor. -/
def State.OwesQueue (s t : State) (c : Chan) : Prop :=
  let r := s.claim c
  let cl := s.lin.queue.get (.claim c)
  let re := s.lin.queue.get (.release c)
  let open' := r.state = .claiming ∧ r.announced = true
  cl.successor = none → re.successor = none →
    (open' → (t.claim c).owedRelease = some (r.token, .withdrawn)) ∧
    (¬ open' → cl.frame = none ∨ (cl.frame.bind TxFrame.content).bind Content.claim? ≠ none →
      (re.frame = none → (t.claim c).owedRelease = r.owedRelease) ∧
      (∀ g, (re.frame.bind TxFrame.content).bind Content.release? = some g →
        (g.token.toNat ∉ r.heard → (t.claim c).owedRelease = r.owedRelease) ∧
        (g.token.toNat ∈ r.heard → ∀ o : ReleaseOutcome, g.outcome.toNat = o.code →
          (t.claim c).owedRelease = some (g.token.toNat, o)))) ∧
    (re.frame = none ∨ (re.frame.bind TxFrame.content).bind Content.release? ≠ none →
      (cl.frame = none → (t.claim c).owedRenewal = r.owedRenewal) ∧
      (∀ f, (cl.frame.bind TxFrame.content).bind Content.claim? = some f →
        (t.claim c).owedRenewal = if f.renew = 0 then r.owedRenewal else true))

/-- From `s` to `t` the run's claim has been renewed with new values: announced by a renewing CLAIM under HELD,
owed in isolated operation, announced to nobody under LOCAL (R137, R140, R141). -/
def State.Renewed (s t : State) (c : Chan) (v : ClaimVals) : Prop :=
  let r := { s.claim c with current := some v, announcedVals := some v };
  ((s.claim c).state = .localRun → t.claim c = r ∧ t.lin = s.lin) ∧
  ((s.claim c).state = .held → s.isolated = true →
    t.claim c = { r with owedRenewal := true } ∧ t.lin = s.lin) ∧
  ((s.claim c).state = .held → s.isolated = false → t.claim c = r ∧
    (s.lin.conflict = false → s.lin.attempt ≠ some (.claim c) → t.ClaimQueued c r.token v 1))

/-- The counter after a pulse in the recorded direction, which saturates at 0 and L (R80). -/
def State.pulsed (s : State) (c : Chan) : Nat :=
  match (s.chan c).direction with
  | .opening => min ((s.chan c).position + 1) (max (s.setting c).travel (s.chan c).position)
  | .closing => (s.chan c).position - 1

/-- The record with the driver switched off (R92): every timer of the drive stops and the coast of 200 ms
runs. -/
def Channel.off (ch : Channel) (now : Nat) (headed : Option Heading) (k : Continuation) : Channel :=
  { ch with
    runState := .coasting, coast := some (now + 200), rampMid := none, rampEnd := none, stall := none
    overcurrent := none, headed := headed, continuation := k }

/-- The state with one channel's record replaced, and the status output at the level that follows. -/
def State.withChan (s : State) (c : Chan) (ch : Channel) : State :=
  State.settle { s with dch := s.dch.set c ch }

/-- From `s` to `t` the entries of every origin but SERVICE ask what they asked before. -/
def State.AsksKept (s t : State) : Prop :=
  ∀ c o, o ≠ .service → t.asks c o = s.asks c o

/-- From `s` to `t` the entries of every origin but SERVICE ask what they asked before, but for one. -/
def State.AsksKeptBut (s t : State) (c : Chan) (o : Origin) : Prop :=
  ∀ d p, p ≠ .service → (d, p) ≠ (c, o) → t.asks d p = s.asks d p

/-! ### Laws of the state -/

/-- A driver is energised only while the channel's claim state is HELD or LOCAL (R79). -/
def State.DrivesUnderSlot (s : State) : Prop :=
  ∀ c, s.energised c = true → (s.claim c).state = .held ∨ (s.claim c).state = .localRun

/-- No drive in the opening direction while the held level is CLOSE or SEVERE, BACKOFF excepted (R99). -/
def State.NeverOpensUnderThreat (s : State) : Prop :=
  ∀ c, (s.chan c).runState.drivingJob = true → (s.chan c).direction = .opening →
    (s.held c).shut = false

/-- Only a present channel is energised, and none drives closing for a job while its safety edge is active
(R77, R114). -/
def State.NeverClosesOnEdge (s : State) : Prop :=
  ∀ c, (s.energised c = true → s.present c = true) ∧
    ((s.chan c).runState.drivingJob = true → (s.chan c).direction = .closing → (s.pin c).edge = false)

/-- Every position counter lies in 0..L (R80); a node held in reset has them at 0 (R105). -/
def State.PositionsInTravel (s : State) : Prop :=
  ∀ c, (s.chan c).position ≤ (s.setting c).travel ∧ (s.phase = .held → (s.chan c).position = 0)

/-- No held level is below its raw level (R46). -/
def State.HeldCoversRaw (s : State) : Prop :=
  ∀ c, (s.thr.get c).raw.rank ≤ (s.thr.get c).held.rank

/-- A channel in FOLLOW mode has its latch clear (R49); a node held in reset has every latch clear (R54). -/
def State.FollowNeverLatches (s : State) : Prop :=
  ∀ c, ((s.setting c).latchMode = .follow → (s.thr.get c).latch = false) ∧
    (s.phase = .held → (s.thr.get c).latch = false)

/-- The key of a run table entry. -/
def RunEntry.key (e : RunEntry) : Nat × Chan := (e.node, e.chan)

/-- The run table holds at most 16 entries, at most one for a node and channel (R126). -/
def State.TableBounded (s : State) : Prop :=
  s.rsu.table.length ≤ 16 ∧ (s.rsu.table.map RunEntry.key).Nodup

/-- The working capacity never exceeds the configured capacity (R125). -/
def State.CapacityBounded (s : State) : Prop :=
  s.loaded = true → s.rsu.working ≤ s.config.capacity

/-- The failure count lies in 0..3 (R117) and the slip count in 0..2, at rest below 2 (R110, R111). -/
def State.CountsBounded (s : State) : Prop :=
  ∀ c, (s.chan c).failures ≤ 3 ∧ (s.chan c).slips ≤ 1

/-- An observation's figures lie in their ranges, and heavy goes with RAIN (R7, R24). -/
def Observation.InRange (o : Observation) : Prop :=
  o.gust ≤ 999 ∧ o.mean ≤ 999 ∧ (o.direction < 16 ∨ o.direction = 255) ∧
    (o.heavy = true → o.rain = .rain)

/-- The figures of the Weather Inputs lie in their ranges (R1, R2, R3, R5, R11, R12, R16, R18). -/
def Wxi.InRange (w : Wxi) : Prop :=
  w.count ≤ 65535 ∧ w.ring.length ≤ 20 ∧ (∀ x ∈ w.ring, x.speed ≤ 999 ∧ x.sector < 16) ∧
    w.gust ≤ 999 ∧ w.mean ≤ 999 ∧ (w.direction < 16 ∨ w.direction = 255) ∧
    w.minuteRing.length = 10 ∧ (∀ b ∈ w.minuteRing, b ≤ 255) ∧ (w.minuteRing.take 2).sum ≤ 510 ∧
    w.amount ≤ 2550 ∧ (w.heavy = true → w.rain = .rain) ∧ w.band ≤ 3 ∧ w.seq ≤ 255

/-- Every figure of the weather, measured, stored or in the picture, lies in its range, and the rain counter
below its compare value, at 0 in a node held in reset (R3, R10, R19, R24, R28, R31). -/
def State.FiguresInRange (s : State) : Prop :=
  s.wxi.InRange ∧ s.wxi.rainCounter < s.config.compare ∧ (s.phase = .held → s.wxi.rainCounter = 0) ∧
    (∀ e ∈ s.src.entries, e.obs.InRange) ∧
    s.src.picture.gust ≤ 999 ∧ s.src.picture.mean ≤ 999 ∧
    (s.src.picture.direction < 16 ∨ s.src.picture.direction = 255) ∧
    (s.src.picture.heavy = true → s.src.picture.rain = .rain)

/-- The arrival orders of all present entries of both tables. -/
def Req.arrivals (r : Req) : List Nat := r.table.c0.arrivals ++ r.table.c1.arrivals

/-- No two present entries carry the same arrival order, each is below the arrival counter, and the counter
lies in 0..65535 (R56). -/
def State.ArrivalsDistinct (s : State) : Prop :=
  s.req.arrivals.Nodup ∧ (∀ a ∈ s.req.arrivals, a < s.req.arrival) ∧ s.req.arrival ≤ 65535

/-- A queued frame has made fewer than 16 attempts (R150, R151). -/
def State.AttemptsBounded (s : State) : Prop :=
  ∀ p f, (s.lin.queue.get p).frame = some f → f.attempts ≤ 15

/-- A job, or the part of it in hand, seeks a target by count. -/
def Continuation.seeks : Continuation → Bool
  | .job (.seek _) _ => true
  | .job (.homeThenSeek _) part => part == some .seekPart
  | .job .home _ => false
  | .none => false
  | .backoff => false

/-- A channel whose position is UNKNOWN has no SEEK in progress, waiting or to follow (R81). -/
def State.SeeksKnown (s : State) : Prop :=
  ∀ c, ((s.chan c).continuation.seeks = true → (s.chan c).known = true) ∧
    ((s.chan c).runState.drivingJob = true ∨ (s.chan c).runState = .waitSlot →
      (s.chan c).seekTarget.isSome = true → (s.chan c).known = true)

/-- Claims belong to present channels; a LOCAL run stands alone, and only in isolated operation, in which no
claim is made or waits (R140, R141, R142). -/
def State.LocalStandsAlone (s : State) : Prop :=
  ∀ c, ((s.claim c).state ≠ .none → s.present c = true) ∧
    ((s.claim c).state = .localRun → s.isolated = true ∧ s.holdsNone (chanOther c) = true) ∧
    ((s.claim c).state = .claiming ∨ (s.claim c).state = .waiting → s.isolated = false)

/-- The WEATHER entry is the one the held level calls for (R52). -/
def State.WeatherFollowsHeld (s : State) : Prop :=
  ∀ c, s.asks c .weather =
    match s.held c with
    | .severe => some (.close, .storm, none)
    | .close => some (.close, .weather, none)
    | .watch => none
    | .calm => none

/-- Every stored target lies in 0..100 and within the watch limit under WATCH, and under CLOSE or SEVERE no
OPEN is held (R57, R62, R63, R64); WEATHER and SERVICE entries only close (R52, R74); a node held in reset is
CALM (R54). -/
def State.OpensObeyThreat (s : State) : Prop :=
  ∀ c, (∀ o e p, (s.table c).get o = some e → e.action = .openTo p →
      (o = .order ∨ o = .panel) ∧ p ≤ 100 ∧ (s.held c).shut = false ∧
        (s.held c = .watch → p ≤ s.config.watchLimit)) ∧
    (s.phase = .held → s.held c = .calm)

/-- The laws of 05 and 06 under which motors run. -/
def State.Safe (s : State) : Prop :=
  s.DrivesUnderSlot ∧ s.NeverOpensUnderThreat ∧ s.NeverClosesOnEdge

end Sys2Proof.Machine

namespace Sys2Proof

/-- The channel for which a command of one channel comes. -/
def Instr.ofChannel : Instr → Option Chan
  | .releaseHoldExpiry c => some c
  | .orderExpiry c => some c
  | .panelOpenPress c => some c
  | .panelClosePress c => some c
  | .encoderPulse c => some c
  | .closedLimitChange c _ => some c
  | .openLimitActive c _ => some c
  | .rampMidpoint c => some c
  | .rampEnd c => some c
  | .coastEnd c => some c
  | .dwellEnd c => some c
  | .overrun c => some c
  | .markerEdge c => some c
  | .stallTimerExpiry c => some c
  | .overcurrentChange c _ => some c
  | .overcurrentTimerExpiry c => some c
  | .safetyEdgeActive c _ => some c
  | .retryDelayExpiry c => some c
  | .claimWindowEnd c => some c
  | .staggerEnd c => some c
  | .claimRetryExpiry c => some c
  | _ => none

/-- The command is a reset (R181). -/
def Instr.isReset (i : Instr) : Prop := i = .powerOnReset ∨ i = .resetN

end Sys2Proof
end

