-- ==== Sys2Proof/Certificates/Slice0/Obligations.lean ====
section
/-! DEFINITION. The statements for the provers. OBLIGATIONS.json gives each its rules of spec/. -/

open Sys2Proof Sys2Proof.Machine

/-! ### The machine -/

/-- The step takes the command at the front of the queue and is that command's meaning on the state with the
queue's rest. -/
def Obligations.StepTakesFrontCommand : Prop :=
  ∀ (i : Instr) (rest : List Instr) (s : State), s.pending = i :: rest →
    step s = exec i { s with pending := rest }

/-- On an empty queue the node's time base acts: the first command that is due is queued, and when none is due
1 ms passes, in which the overrun clock of an energised channel advances and nothing else changes. Due is each
accepted frame that waits to be acted on, and the expiry of each running timer whose moment has come, with the
readings of the moment (free values, log 13), and nothing else. A choice of the model (log 1 to 3, and log 10 for
the frames that wait) over R94's clock. -/
def Obligations.IdleStepKeepsTheTime : Prop :=
  ∀ s : State, s.pending = [] →
    (∀ i l, s.due = i :: l → step s = .next { s with pending := [i] }) ∧
    (s.due = [] → ∃ t, step s = .next t ∧ t.now = s.now + 1 ∧
      (∀ c, t.chan c = { s.chan c with
        overrunMs := (s.chan c).overrunMs + (if s.energised c then 1 else 0) }) ∧
      { t with now := s.now, dch := s.dch } = s) ∧
    (∀ i, i ∈ s.due ↔ i ∈ s.lin.accepted ∨ s.TimeFor i)

/-- Every command completes, as one whole: the clock and the queue stay, and the status output stands at the
level its condition calls for. That the clock stays is the model's choice that a command takes no time (log 1), and
that a reset too keeps the waiting commands and the clock is its choice of log 32. -/
def Obligations.EveryCommandCompletes : Prop :=
  ∀ (i : Instr) (s : State), ∃ t, exec i s = .next t ∧ t.now = s.now ∧ t.pending = s.pending ∧
    t.rep.released = t.outputLevel

/-- Between resets the straps and the working configuration are fixed, but that the load puts the gust thresholds
in ascending form (in the configuration itself: the model's reading, log 39), and only the end of a store write
changes the store. -/
def Obligations.ConfigurationStaysFixed : Prop :=
  ∀ (i : Instr) (s t : State), exec i s = .next t → ¬ i.isReset →
    (s.phase ≠ .held → t.straps = s.straps ∧ t.blockRead = s.blockRead ∧
      t.config = if s.phase = .calibrating ∧ t.phase = .listenIn then
          { s.config with
            gClose := max s.config.gWatch s.config.gClose
            gSevere := max (max s.config.gWatch s.config.gClose) s.config.gSevere }
        else s.config) ∧
    ((∀ b, i ≠ .storeWriteEnd b) → t.store = s.store ∧ t.storeTorn = s.storeTorn) ∧
    (s.commitState = .idle → t.store = s.store)

/-! ### Invariants -/

/-- The state after reset meets every law that the invariants below keep. -/
def Obligations.ResetMeetsTheLaws : Prop :=
  State.reset.DrivesUnderSlot ∧ State.reset.NeverOpensUnderThreat ∧ State.reset.NeverClosesOnEdge ∧
    State.reset.PositionsInTravel ∧ State.reset.HeldCoversRaw ∧ State.reset.FollowNeverLatches ∧
    State.reset.TableBounded ∧ State.reset.CapacityBounded ∧ State.reset.CountsBounded ∧
    State.reset.FiguresInRange ∧ State.reset.ArrivalsDistinct ∧ State.reset.AttemptsBounded ∧
    State.reset.SeeksKnown ∧ State.reset.LocalStandsAlone ∧ State.reset.WeatherFollowsHeld ∧
    State.reset.OpensObeyThreat

/-- A driver is energised only while the claim state is HELD or LOCAL: every step keeps it. -/
def Obligations.DriversRunUnderSlots : Prop :=
  ∀ s t : State, s.DrivesUnderSlot → step s = .next t → t.DrivesUnderSlot

/-- No drive opens while the held level is CLOSE or SEVERE, a back-off excepted: every step keeps it. -/
def Obligations.NoOpeningUnderThreat : Prop :=
  ∀ s t : State, s.NeverOpensUnderThreat → step s = .next t → t.NeverOpensUnderThreat

/-- Only present channels are energised and none drives closing on its safety edge: every step keeps it. -/
def Obligations.NoClosingOntoTheEdge : Prop :=
  ∀ s t : State, s.NeverClosesOnEdge → step s = .next t → t.NeverClosesOnEdge

/-- Every position counter lies in 0..L: every step keeps it. -/
def Obligations.PositionsStayInTravel : Prop :=
  ∀ s t : State, s.PositionsInTravel → step s = .next t → t.PositionsInTravel

/-- No held level is below its raw level, and FOLLOW channels never latch: every step keeps both. -/
def Obligations.ThreatLevelsStayCovered : Prop :=
  ∀ s t : State, step s = .next t → (s.HeldCoversRaw → t.HeldCoversRaw) ∧
    (s.FollowNeverLatches → t.FollowNeverLatches)

/-- The run table holds at most 16 entries, one for a node and channel, and the working capacity never exceeds
the node's own: every step keeps both. -/
def Obligations.RunTableStaysBounded : Prop :=
  ∀ s t : State, step s = .next t → (s.TableBounded → t.TableBounded) ∧
    (s.CapacityBounded → t.CapacityBounded)

/-- The failure count lies in 0..3, a second slip never stands, and no queued frame has collided sixteen times:
every step keeps each. -/
def Obligations.CountsStayInRange : Prop :=
  ∀ s t : State, step s = .next t → (s.CountsBounded → t.CountsBounded) ∧
    (s.AttemptsBounded → t.AttemptsBounded)

/-- Every figure of the weather, measured, stored or in the picture, lies in its range, with the rain amount in
0..2550, the units of two minutes at most 510, the rain counter below its compare value, the announced band and
the sequence number: every step keeps it. -/
def Obligations.WeatherFiguresStayInRange : Prop :=
  ∀ s t : State, s.FiguresInRange → step s = .next t → t.FiguresInRange

/-- No two present entries carry the same arrival order, and the counter lies in 0..65535: every step keeps
it. -/
def Obligations.ArrivalOrdersStayDistinct : Prop :=
  ∀ s t : State, s.ArrivalsDistinct → step s = .next t → t.ArrivalsDistinct

/-- No channel seeks by an UNKNOWN position: every step keeps it. -/
def Obligations.SeeksKeepAKnownPosition : Prop :=
  ∀ s t : State, s.SeeksKnown → step s = .next t → t.SeeksKnown

/-- A LOCAL run stands alone, in isolated operation only, in which no claim is made: every step keeps it. -/
def Obligations.LocalRunsStandAlone : Prop :=
  ∀ s t : State, s.LocalStandsAlone → step s = .next t → t.LocalStandsAlone

/-- The request tables keep in line with the held levels: the WEATHER entry is the one the level calls for,
and no OPEN stands that the level forbids. Every step keeps both. -/
def Obligations.TablesFollowTheThreat : Prop :=
  ∀ s t : State, step s = .next t → (s.WeatherFollowsHeld → t.WeatherFollowsHeld) ∧
    (s.OpensObeyThreat → t.OpensObeyThreat)

/-- Outside isolated operation a command of one channel leaves everything that belongs to the other: its
record, its claim, its threat record, its inputs, its entries, its selection and its places in the transmit
queue. -/
def Obligations.ChannelsActAlone : Prop :=
  ∀ (i : Instr) (c : Chan) (s t : State), i.ofChannel = some c → s.isolated = false →
    exec i s = .next t →
    t.chan (chanOther c) = s.chan (chanOther c) ∧ t.claim (chanOther c) = s.claim (chanOther c) ∧
    t.thr.get (chanOther c) = s.thr.get (chanOther c) ∧ t.pin (chanOther c) = s.pin (chanOther c) ∧
    (∀ o, t.asks (chanOther c) o = s.asks (chanOther c) o) ∧
    t.req.effective.get (chanOther c) = s.req.effective.get (chanOther c) ∧
    t.lin.queue.get (.claim (chanOther c)) = s.lin.queue.get (.claim (chanOther c)) ∧
    t.lin.queue.get (.release (chanOther c)) = s.lin.queue.get (.release (chanOther c))

/-! ### Frames and the configuration block -/

/-- The receive checks take the frames of stations and discard everything else. A frame of any kind from any
station, its payload of the kind's length, passes and is the command of its payload; and a list of bytes passes, as
that command, exactly when it is SYNC, the KIND code of a kind, a SOURCE whose low six bits are a station's address
(its two high bits are not examined), that kind's LENGTH, so many payload bytes, and the CRC of KIND to the last
payload byte, high byte first: a frame that fails one of these is discarded. KIND codes and lengths are those of the
table. -/
def Obligations.FramesReadBack : Prop :=
  (∀ (kind : FrameKind) (source : Addr) (payload : List Byte), source.isStation = true →
    payload.length = kind.length →
    checkFrame (frameOf kind source payload) = some (payloadCommand kind source payload)) ∧
  (∀ (bytes : List Byte) (i : Instr), checkFrame bytes = some i ↔
    ∃ (kind : FrameKind) (source : Byte) (payload : List Byte),
      let address : Addr := source.extractLsb' 0 6
      let body := kind.code :: source :: BitVec.ofNat 8 kind.length :: payload;
      address ≠ 0 ∧ address ≠ 63 ∧ payload.length = kind.length ∧
      bytes = 0x5A#8 :: body ++ [(crc16 body).extractLsb' 8 8, (crc16 body).extractLsb' 0 8] ∧
      i = payloadCommand kind address payload) ∧
  [FrameKind.weather, .claim, .release, .report, .order, .configData, .configCommit].map
      (fun kind => (kind.code.toNat, kind.length))
    = [(0x12, 11), (0x18, 7), (0x10, 4), (0x11, 18), (0x14, 7), (0x21, 18), (0x23, 3)]

/-- The frames the node sends are read, by another station, as the commands that carry the same fields. -/
def Obligations.SentFramesReadBack : Prop :=
  ∀ source : Addr, source.isStation = true →
    (∀ f, checkFrame (contentBytes source (.weather f)) = some (.weatherFrame source f)) ∧
    (∀ f, checkFrame (contentBytes source (.claim f)) = some (.claimFrame source f)) ∧
    (∀ f, checkFrame (contentBytes source (.release f)) = some (.releaseFrame source f)) ∧
    (∀ f, checkFrame (contentBytes source (.report f)) = some (.stateFrame source (stateBytes f))) ∧
    (∀ f, checkFrame (contentBytes source (.order 1 f)) = some (.orderClose source f))

/-- The CRC is the shift register of the rule: FFFFh at the start, each byte combined into the high eight bits,
eight shifts with 1021h at each 1 shifted out; a frame carries the CRC of KIND to the last payload byte, high
byte first; running on over two more bytes leaves 0000h exactly when they are the CRC, the block uses the same
code, and the digits 1 to 9 give 29B1h. -/
def Obligations.CrcIsTheShiftRegister : Prop :=
  (crc16 [] = 0xFFFF#16 ∧
    ∀ (bytes : List Byte) (b : Byte), crc16 (bytes ++ [b]) =
      Nat.iterate (fun r : Half => if r.getLsbD 15 then (r <<< 1) ^^^ 0x1021#16 else r <<< 1) 8
        (crc16 bytes ^^^ (b.zeroExtend 16 <<< 8))) ∧
  (∀ (kind : FrameKind) (source : Addr) (payload : List Byte),
    let body := kind.code :: source.zeroExtend 8 :: BitVec.ofNat 8 kind.length :: payload;
    frameOf kind source payload =
      0x5A#8 :: body ++ [(crc16 body).extractLsb' 8 8, (crc16 body).extractLsb' 0 8]) ∧
  (∀ (bytes : List Byte) (x y : Byte), crc16 (bytes ++ [x, y]) = 0#16 ↔
    x = (crc16 bytes).extractLsb' 8 8 ∧ y = (crc16 bytes).extractLsb' 0 8) ∧
  (∀ b : List Byte, blockSound b = true ↔
    b.length = 96 ∧ (crc16 (b.take 94)).toNat = (b.getD 94 0).toNat * 256 + (b.getD 95 0).toNat) ∧
  crc16 [0x31, 0x32, 0x33, 0x34, 0x35, 0x36, 0x37, 0x38, 0x39] = 0x29B1#16

/-- The settings decoded from a block, whatever it holds: each field is read at its offset of the layout; a
number in its range is taken as stored and one outside it becomes the nearer bound, a code that names none of
its values becomes the default, with the owning chapters' exceptions for segment, spacing, snap tolerance,
source slots and fail-safe level; so every setting lies in its range, no source slot repeats an address or
carries the node's own, and the thresholds ascend in the form the load gives them. The config-fault flag is
raised exactly when one of these changed a field. That the priority code of a source slot without a source, the
slots of address 255 among them, is judged as that of any other is the model's reading (log 33). -/
def Obligations.DecodedSettingsLieInRange : Prop :=
  ∀ (own : Addr) (b : List Byte), let cfg := (decodeBlock own b).value
    let byte := fun k : Nat => (b.getD k 0).toNat
    let half := fun k : Nat => byte k * 256 + byte (k + 1)
    let near := fun lo hi x : Nat => max lo (min hi x)
    (cfg.factor = near 1 4095 (half 0) ∧ cfg.compare = near 1 255 (byte 3) ∧
      cfg.rOn = near 1 15 (byte 4) ∧ cfg.rHeavy = near 2 60 (byte 5) ∧
      cfg.pubInterval = near 1 10 (byte 6) ∧ cfg.gWatch = min 999 (half 8) ∧
      cfg.gClose = min 999 (half 10) ∧ cfg.gSevere = min 999 (half 12) ∧ cfg.drClose = min 999 (half 14) ∧
      cfg.tRel = near 1 60 (byte 16) ∧ cfg.tStale = near 5 120 (byte 17) ∧
      cfg.watchLimit = min 100 (byte 18) ∧ cfg.segment = (if 15 < byte 20 then 0 else byte 20) ∧
      cfg.capacity = near 1 4 (byte 21) ∧ cfg.statusInterval = near 10 120 (byte 22)) ∧
    ((cfg.rainMode = .gated ↔ (b.getD 2 0).getLsbD 0 = true) ∧
      (cfg.rainRising = true ↔ (b.getD 2 0).getLsbD 1 = false) ∧
      (cfg.wetHigh = true ↔ (b.getD 2 0).getLsbD 2 = false) ∧
      cfg.failSafe = (if byte 7 = 0 then .calm else if byte 7 = 1 then .watch else .close) ∧
      (cfg.startHome = true ↔ byte 19 ≠ 0) ∧
      cfg.outSource = (match byte 23 with
        | 0 => .heldClose | 1 => .notValid | 2 => .fault | 3 => .allClosed
        | 4 => .line | 5 => .localRain | 6 => .low | 7 => .high | _ => .fault) ∧
      (cfg.outPolarity = .activeHigh ↔ byte 24 = 1) ∧ (cfg.ch1Present = true ↔ byte 25 ≠ 0)) ∧
    (cfg.sources.length = 8 ∧ ∀ i < 8,
      let a := byte (26 + 2 * i);
      (cfg.sources[i]?).map SourceSlot.tier = some (if byte (27 + 2 * i) = 1 then .second else .first) ∧
      (cfg.sources[i]?).map SourceSlot.address =
        some (if a ≤ 62 ∧ (a = own.toNat → a = 0) ∧ ∀ j < i, byte (26 + 2 * j) ≠ a then a else 255)) ∧
    (∀ c, let set := cfg.ch.get c; let o := 42 + 26 * chanNat c
      let formed := if half (o + 17) = 0 then 0 else near 16 4096 (half (o + 17));
      (set.kind = .window ↔ byte o = 1) ∧ set.faceNormal = min 15 (byte (o + 1)) ∧
      set.weight = near 8 32 (byte (o + 2)) ∧ (set.latchMode = .keep ↔ byte (o + 3) = 1) ∧
      set.zoneBase.toNat = half (o + 4) ∧ set.zoneMask.toNat = half (o + 6) ∧
      set.travel = near 100 65000 (half (o + 8)) ∧ set.coast = byte (o + 10) ∧
      set.speed = near 10 2000 (half (o + 11)) ∧ set.ramp = min 2000 (half (o + 13)) ∧
      set.dwell = near 100 2000 (half (o + 15)) ∧
      set.spacing = (if set.travel ≤ formed then 0 else formed) ∧
      (set.spacing ≠ 0 → set.snap = near 1 (set.spacing / 4) (byte (o + 19))) ∧
      set.stall = near 50 1000 (half (o + 20)) ∧ set.backoff = min 4095 (half (o + 22)) ∧
      set.retry = near 5 120 (byte (o + 24)) ∧ set.overcurrent = byte (o + 25)) ∧
    ((decodeBlock own b).flag = true ↔
      cfg.factor ≠ half 0 ∨ cfg.compare ≠ byte 3 ∨ cfg.rOn ≠ byte 4 ∨ cfg.rHeavy ≠ byte 5 ∨
      cfg.pubInterval ≠ byte 6 ∨ 2 < byte 7 ∨ cfg.gWatch ≠ half 8 ∨ cfg.gClose ≠ half 10 ∨
      cfg.gSevere ≠ half 12 ∨ cfg.drClose ≠ half 14 ∨ cfg.tRel ≠ byte 16 ∨ cfg.tStale ≠ byte 17 ∨
      cfg.watchLimit ≠ byte 18 ∨ 1 < byte 19 ∨ cfg.segment ≠ byte 20 ∨ cfg.capacity ≠ byte 21 ∨
      cfg.statusInterval ≠ byte 22 ∨ 7 < byte 23 ∨ 1 < byte 24 ∨ 1 < byte 25 ∨
      (∃ i < 8, 1 < byte (27 + 2 * i) ∨
        (cfg.sources[i]?).map SourceSlot.address ≠ some (byte (26 + 2 * i))) ∨
      ∃ c, let set := cfg.ch.get c; let o := 42 + 26 * chanNat c;
        1 < byte o ∨ set.faceNormal ≠ byte (o + 1) ∨ set.weight ≠ byte (o + 2) ∨ 1 < byte (o + 3) ∨
        set.travel ≠ half (o + 8) ∨ set.speed ≠ half (o + 11) ∨ set.ramp ≠ half (o + 13) ∨
        set.dwell ≠ half (o + 15) ∨ (1 ≤ half (o + 17) ∧ half (o + 17) ≤ 15) ∨ 4096 < half (o + 17) ∨
        (set.spacing ≠ 0 ∧ set.snap ≠ byte (o + 19)) ∨ set.stall ≠ half (o + 20) ∨
        set.backoff ≠ half (o + 22) ∨ set.retry ≠ byte (o + 24)) ∧
    (cfg.failSafe ≠ .severe ∧ cfg.watchLimit ≤ 100 ∧ cfg.segment ≤ 15 ∧
      (let up := cfg.ascend.value;
        up.gWatch ≤ up.gClose ∧ up.gClose ≤ up.gSevere ∧ up.gSevere ≤ 999) ∧
      ((cfg.sources.map SourceSlot.address).filter (· ≠ 255)).Nodup ∧
      (∀ x ∈ cfg.sources, (x.address ≤ 62 ∨ x.address = 255) ∧ (x.address ≠ 0 → x.address ≠ own.toNat)) ∧
      ∀ c, let set := cfg.ch.get c;
        set.spacing = 0 ∨ (16 ≤ set.spacing ∧ set.spacing ≤ 4096 ∧ set.spacing < set.travel ∧
          1 ≤ set.snap ∧ set.snap ≤ set.spacing / 4))

/-! ### Reset, start and load -/

/-- Either reset holds the node: every block takes its reset state, and the store keeps its content unless a
write is cut short, which leaves it partly written. The model's choices in it: clock, queue and input levels
stay (log 5, 32), a cut write leaves a number of the staging copy's first bytes over the old content and marks
the store torn below 96 (log 8), the count of free values goes on (log 9), and straps, configuration, block
copies and capacity take the values of log 6. -/
def Obligations.ResetsHoldTheNode : Prop :=
  ∀ (i : Instr) (s : State), i.isReset → ∃ t, exec i s = .next t ∧
    t = { State.reset with
      pending := s.pending, now := s.now, pins := s.pins, store := t.store, storeTorn := t.storeTorn
      freeCount := t.freeCount } ∧
    (s.commitState = .idle → t.store = s.store ∧ t.storeTorn = s.storeTorn ∧
      t.freeCount = s.freeCount) ∧
    (s.commitState = .writing → t.freeCount = s.freeCount + 1 ∧
      ∃ k, t.store = s.staging.take k ++ s.store.drop k ∧ (t.storeTorn = true ↔ k < 96)) ∧
    (t.phase = .held ∧ t.rep.released = true ∧ t.wxi.windOk = true ∧ t.wxi.periodic = 1 ∧
      t.src.picture.status = .starting ∧ t.supply.status = .low ∧ t.rsu.table = [] ∧
      t.lin.assembly.state = .waitQuiet ∧ t.rep.outcome = .none ∧
      ∀ c, t.held c = .calm ∧ (∀ o, t.asks c o = none) ∧ (t.chan c).known = false ∧
        (t.chan c).runState = .idle ∧ (t.chan c).failures = 0 ∧ (t.claim c).state = .none)

/-- At the release of reset the straps are latched, the block is read and the working configuration formed from
it: decoded where the CRC matches, the default block with the config-fault flag where it does not or the store
cannot be read; calibration begins. A node that is not held in reset has nothing released. The model's choices
in it: a node that calibrates no channel stands at the moment of the load at once (log 12), the first of 50 ms
for each channel that is calibrated begins here (log 29), a store whose write was cut short is unsound whatever it
holds (log 8), and the working configuration is the decoded block with its flag, its thresholds not yet raised
(log 39). -/
def Obligations.ReleaseFormsTheConfiguration : Prop :=
  ∀ (address : Addr) (role : BitVec 2) (fitted readable : Bool) (s : State),
    (s.phase ≠ .held →
      exec (.resetRelease address role fitted readable) s = .next s.settle) ∧
    (s.phase = .held → ∃ t, exec (.resetRelease address role fitted readable) s = .next t ∧
      t.straps = { address := address, roleCode := role, commissioning := fitted } ∧
      t.phase = .calibrating ∧
      (let sound := readable = true ∧ s.storeTorn = false ∧ s.store.length = 96 ∧
          (crc16 (s.store.take 94)).toNat = halfAt s.store 94;
        (sound → t.config = (decodeBlock address s.store).value ∧
          t.configFault = (decodeBlock address s.store).flag) ∧
        (¬ sound → t.config = defaultSettings ∧ t.configFault = true)) ∧
      (readable = true → t.blockRead = s.store ∧ t.freeCount = s.freeCount) ∧
      (t.role = .sense ↔ role = 1) ∧
      t.calLeft = (if role = 1 then [] else if t.config.ch1Present then [.c0, .c1] else [.c0]) ∧
      t.calAt = some (if role = 1 then s.now else s.now + 50) ∧
      t = { s with
        straps := t.straps, phase := .calibrating, config := t.config, configFault := t.configFault
        blockRead := t.blockRead, freeCount := t.freeCount, calLeft := t.calLeft, calAt := t.calAt
        rep := { s.rep with released := true } })

/-- Calibration keeps an offset of 0..31 and sets the CAL fault at 32 or more, each channel on its own; a
calibration that is not the last goes on with the next channel. That the offset of a channel that takes CAL
stays as it was is the model's choice (log 51). -/
def Obligations.CalibrationJudgesTheOffset : Prop :=
  ∀ (c : Chan) (mean : Byte) (s : State), s.phase = .calibrating → c ∈ s.calLeft →
    ∃ t, exec (.calibrationEnd c mean) s = .next t ∧
      (mean.toNat < 32 → (t.chan c).calOffset = mean.toNat) ∧
      (32 ≤ mean.toNat → (t.chan c).still =
        { s.chan c with fault := .cal, runState := .fault, standing := none }) ∧
      (s.calLeft.erase c ≠ [] → t =
        { s with
          dch := s.dch.set c (if mean.toNat < 32 then { s.chan c with calOffset := mean.toNat }
            else { s.chan c with fault := .cal, runState := .fault })
          calLeft := s.calLeft.erase c, calAt := some (s.now + 50)
          rep := { s.rep with released := t.outputLevel } })

/-- The load after the last calibration, or in a node that calibrates no channel at the first CALIBRATION_END,
of whatever channel (the model's choice, log 12; so are the first rain tick 125 ms after the load, log 35, and
the source table of a SENSE node, which stays as it was, log 37): the gust thresholds are taken in ascending form
in every role, and a raise sets the config-fault flag, as role code 3 does (that the working configuration holds
them so is the model's reading, log 39); every block begins with the working configuration, REQ with the SERVICE
entries of the start action HOME and the reporting functions by asking for a STATE frame, the staging copy takes the
block as read, and the listen-in of 20 s runs. -/
def Obligations.LoadBeginsTheListenIn : Prop :=
  ∀ (c : Chan) (mean : Byte) (s : State), s.phase = .calibrating →
    (s.calLeft = [] ∨ s.calLeft = [c]) →
    ∃ t, exec (.calibrationEnd c mean) s = .next t ∧
      t.phase = .listenIn ∧ t.listenInAt = some (s.now + 20000) ∧ t.staging = s.blockRead ∧
      t.commitState = .idle ∧ t.rsu.working = s.config.capacity ∧
      t.config = { s.config with
        gClose := max s.config.gWatch s.config.gClose
        gSevere := max (max s.config.gWatch s.config.gClose) s.config.gSevere } ∧
      (t.configFault = true ↔ s.configFault = true ∨ s.straps.roleCode = 3 ∨
        s.config.gClose < s.config.gWatch ∨
        s.config.gSevere < max s.config.gWatch s.config.gClose) ∧
      t.rep.interval = some (s.now + s.config.statusInterval * 1000) ∧
      (t.wxiActive = true → t.wxi = { s.wxi with
        windowEnd := some (s.now + 3000)
        rainTickAt := if s.config.rainMode = .gated then some (s.now + 125) else none
        wetTimer := if s.config.rainMode = .gated ∧ s.pins.rainHigh = s.config.wetHigh then
          some (s.now + 43200000) else none }) ∧
      (t.wxiActive = false → t.wxi = s.wxi) ∧
      (t.driveActive = true → t.src.entries = s.config.sources.map (fun x =>
          { address := x.address, tier := x.tier
            status := if x.address = 255 then .empty else .absent, obs := .reset, lastSeq := none
            acceptedAt := none }) ∧
        t.src.picture.status = .starting ∧
        t.supply = if s.pins.supplyGood then { status := .recovering, qualify := some (s.now + 2000) }
          else s.supply) ∧
      (t.driveActive = false → t.src = s.src ∧ t.supply = s.supply) ∧
      (∀ d, t.present d = true → s.config.startHome = true → (s.pin d).closedLimit = false →
        (s.chan d).runState = .idle → t.asks d .service = some (.close, .service, none)) ∧
      s.ReportAsked t ∧
      t.thr = s.thr ∧ s.AsksKept t ∧
      t.base = { s with
        phase := .listenIn, listenInAt := t.listenInAt, staging := t.staging, commitState := .idle
        config := t.config, configFault := t.configFault, calAt := none, calLeft := [], wxi := t.wxi
        src := t.src, supply := t.supply, rsu := { s.rsu with working := t.rsu.working }
        rep := { s.rep with interval := t.rep.interval } }.base

/-- At the end of the listen-in SRC forms its status for the first time and THR its first levels, and RSU turns
to the channels in WAIT_SLOT: outside isolated operation none is left with its claim at NONE, and a channel that
waited and whose held level stays gets its claim, under the node's next token, channel 0 before channel 1 (the
model's choice, log 43); in isolated operation the LOCAL slot goes to the waiting channel of higher class,
channel 0 of equals, which starts, and the other goes on waiting. RSU comes after SRC and THR (the model's
choice, log 44). A changed picture status or held level asks for a STATE frame. -/
def Obligations.ListenInEndFormsThePicture : Prop :=
  ∀ s : State,
    (s.phase ≠ .listenIn → exec .listenInEnd s = .next s.settle) ∧
    (s.phase = .listenIn → ∃ t, exec .listenInEnd s = .next t ∧ t.phase = .running ∧
      t.listenInAt = none ∧
      (s.driveActive = true → State.Recomputed { s with phase := .running } t s.src.entries) ∧
      (s.driveActive = false → t.src = s.src ∧ t.thr = s.thr ∧ s.AsksKept t) ∧
      (s.isolated = false → ∀ c, s.present c = true → (t.chan c).runState = .waitSlot →
        (t.claim c).state ≠ .none) ∧
      (let waits := fun c : Chan =>
          s.present c = true ∧ (s.chan c).runState = .waitSlot ∧ (s.claim c).state = .none
        let free := fun c : Chan =>
          (s.claim (chanOther c)).state ≠ .held ∧ (s.claim (chanOther c)).state ≠ .localRun
        (s.isolated = false → ∀ c, waits c → t.held c = s.held c → let r := s.claim c
          t.chan c = s.chan c ∧
          t.claim c = { r with
            state := .claiming, token := (t.claim c).token, announcedVals := some r.vals
            announced := false, heard := r.heard.erase (t.claim c).token, completion := none
            window := none, stagger := none, retry := none } ∧
          (s.lin.conflict = false → s.lin.attempt ≠ some (.claim c) →
            t.ClaimQueued c (t.claim c).token r.vals 0) ∧
          (t.held (chanOther c) = s.held (chanOther c) →
            (t.claim c).token = (s.rsu.tokenCounter + if c = .c1 ∧ waits .c0 then 2 else 1) % 256)) ∧
        (s.isolated = true → (∀ c, t.held c = s.held c) → ∀ c, waits c → free c →
          (waits (chanOther c) ∧ free (chanOther c) →
            (s.claim (chanOther c)).vals.cls.rank < (s.claim c).vals.cls.rank ∨
            ((s.claim (chanOther c)).vals.cls.rank = (s.claim c).vals.cls.rank ∧ c = .c0)) →
          ∀ j d, (s.chan c).job = some j → movement (s.chan c).position j (s.chan c).part = some d →
          (d = .closing → (s.pin c).closedLimit = false ∧ (s.pin c).edge = false) →
          (d = .opening → (s.pin c).openLimit = false ∧ (s.held c).shut = false) →
          s.energised (chanOther c) = false →
          t.claim c = { s.claim c with state := .localRun } ∧
          (t.chan c).runState = (if (s.setting c).ramp = 0 then .driving else .starting) ∧
          (t.chan c).direction = d ∧ (t.chan c).job = some j ∧
          t.claim (chanOther c) = s.claim (chanOther c) ∧ t.chan (chanOther c) = s.chan (chanOther c) ∧
          ∀ p, p ≠ .report → t.lin.queue.get p = s.lin.queue.get p)) ∧
      t.base = { s with phase := .running, listenInAt := none, src := t.src, thr := t.thr }.base)

/-! ### Weather -/

/-- Rising edges are counted to 65535, and a window's end pushes its sample, starts the next window with a count
of 0 and forms the wind figures from the ring; the vane's Gray code gives the sector. It asks for a WEATHER frame
where the periodic count, a rain state change at the minute boundary or a gust above the announced band calls for
one. That the periodic count stands still where the node does not publish is the model's choice (log 50). A picture
status or a held level that changes with the observation asks for a STATE frame. -/
def Obligations.WindowsMeasureTheWind : Prop :=
  (∀ n, n < 16 → graySector (BitVec.ofNat 4 n ^^^ (BitVec.ofNat 4 n >>> 1)) = n) ∧
  (∀ s : State, exec .anemometerEdge s = .next (State.settle
    (if s.wxiActive then { s with wxi := { s.wxi with count := min 65535 (s.wxi.count + 1) } } else s))) ∧
  (∀ (vane : BitVec 4) (s : State),
    (s.wxiActive = false ∨ s.wxi.windowEnd = none →
      exec (.sampleWindowEnd vane) s = .next s.settle) ∧
    (s.wxiActive = true → s.wxi.windowEnd.isSome = true →
      ∃ t, exec (.sampleWindowEnd vane) s = .next t ∧
        t.wxi.ring = ({ count := s.wxi.count, sector := graySector vane
                        speed := min 999 (s.wxi.count * s.config.factor / 48) } :: s.wxi.ring).take 20 ∧
        t.wxi.count = 0 ∧ t.wxi.windows = s.wxi.windows + 1 ∧
        t.wxi.windowEnd = some (s.now + 3000) ∧
        (∀ x ∈ t.wxi.ring, x.speed ≤ t.wxi.gust) ∧ (∃ x ∈ t.wxi.ring, x.speed = t.wxi.gust) ∧
        t.wxi.mean = min 999
          ((t.wxi.ring.map Sample.count).sum * s.config.factor / (48 * t.wxi.ring.length)) ∧
        (s.wxi.windOk = true → (t.wxi.windOk = false ↔ t.wxi.ring.length = 20 ∧
          (∀ x ∈ t.wxi.ring, x.count = 0) ∧ 3 ≤ sectorChanges t.wxi.ring)) ∧
        (s.wxi.windOk = false → (t.wxi.windOk = true ↔ 0 < s.wxi.count)) ∧
        t.wxi.direction = (if t.wxi.windOk then
          ((t.wxi.ring.find? (fun x => decide (5 ≤ x.speed))).map Sample.sector).getD 255 else 255) ∧
        (if t.wxi.windows % 20 = 0 then
          t.wxi.minuteRing = (0 :: s.wxi.minuteRing).take 10 ∧ t.RainFiguresFit
        else t.wxi.minuteRing = s.wxi.minuteRing ∧ t.wxi.rain = s.wxi.rain ∧
          t.wxi.heavy = s.wxi.heavy ∧ t.wxi.amount = s.wxi.amount) ∧
        t.wxi.periodic = (if s.publishes then
          (if s.wxi.periodic ≤ 1 then s.config.pubInterval else s.wxi.periodic - 1) else s.wxi.periodic) ∧
        (let band := if s.config.gSevere ≤ t.wxi.gust then 3 else if s.config.gClose ≤ t.wxi.gust then 2
            else if s.config.gWatch ≤ t.wxi.gust then 1 else 0
         s.PublicationTakes t (t.wxi.rain != s.wxi.rain) (decide (s.wxi.periodic ≤ 1))
          (decide (s.wxi.band < band))) ∧
        t.wxi.band = s.wxi.band ∧ t.wxi.seq = s.wxi.seq ∧
        (if s.driveActive = true ∧ ∃ e ∈ s.src.entries, e.address = 0 then
          s.Recomputed t (s.src.entries.map (fun e =>
            if e.address = 0 then
              { e with status := .live, obs := t.wxi.observation, lastSeq := none
                       acceptedAt := some s.now }
            else e))
        else t.src = s.src ∧ t.thr = s.thr ∧ s.AsksKept t) ∧
        t.base = { s with wxi := t.wxi, src := t.src, thr := t.thr }.base))

/-- Rain edges in EVENT mode and rain ticks in GATED mode: an active edge within 250 ms of the one before fails
the rain health for ten minutes and is not counted; any other active edge, and a tick that finds the input wet,
takes the counter on by one; at the compare value the unit enters the current bucket and the figures follow, and a
change of the rain state asks for an URGENT WEATHER frame. -/
def Obligations.RainInputsCount : Prop :=
  ∀ s : State,
    (∀ rising, ¬ (s.wxiActive = true ∧ s.config.rainMode = .event ∧ rising = s.config.rainRising) →
      exec (.rainEdge rising) s = .next s.settle) ∧
    (∀ rising, s.wxiActive = true → s.config.rainMode = .event → rising = s.config.rainRising →
      ∃ t, exec (.rainEdge rising) s = .next t ∧ s.OnlyRain t ∧ t.wxi.prevEdge = some s.now ∧
        t.wxi.rainTickAt = s.wxi.rainTickAt ∧
        ((∃ p, s.wxi.prevEdge = some p ∧ s.now - p < 250) →
          t.wxi = { s.wxi with
            prevEdge := some s.now, rainOk := false, recovery := some (s.now + 600000) } ∧
          t.lin = s.lin) ∧
        ((∀ p, s.wxi.prevEdge = some p → 250 ≤ s.now - p) → s.RainCounted t ∧
          t.wxi.rainOk = s.wxi.rainOk ∧ t.wxi.recovery = s.wxi.recovery)) ∧
    (¬ (s.wxiActive = true ∧ s.config.rainMode = .gated) → exec .rainTick s = .next s.settle) ∧
    (s.wxiActive = true → s.config.rainMode = .gated →
      ∃ t, exec .rainTick s = .next t ∧ s.OnlyRain t ∧ t.wxi.rainTickAt = some (s.now + 125) ∧
        t.wxi.prevEdge = s.wxi.prevEdge ∧ t.wxi.rainOk = s.wxi.rainOk ∧
        t.wxi.recovery = s.wxi.recovery ∧
        (s.pins.rainHigh = s.config.wetHigh → s.RainCounted t) ∧
        (s.pins.rainHigh ≠ s.config.wetHigh →
          t.wxi = { s.wxi with rainTickAt := some (s.now + 125) } ∧ t.lin = s.lin))

/-- Rain health, by the timers whose moment has come: the recovery timer of EVENT mode and the wet-duration
timer of GATED mode, which starts at the wet level, is cancelled at the other level, and fails the flag until
the input is next dry. -/
def Obligations.RainHealthFollowsItsTimers : Prop :=
  ∀ s : State,
    exec .rainRecoveryExpiry s = .next (State.settle
      (if s.dueAt s.wxi.recovery then { s with wxi := { s.wxi with rainOk := true, recovery := none } }
      else s)) ∧
    exec .wetDurationExpiry s = .next (State.settle
      (if s.dueAt s.wxi.wetTimer then { s with wxi := { s.wxi with rainOk := false, wetTimer := none } }
      else s)) ∧
    (∀ high, ∃ t, exec (.rainLevelChange high) s = .next t ∧
      t = { s with
        pins := { s.pins with rainHigh := high }, wxi := t.wxi
        rep := { s.rep with released := t.outputLevel } } ∧
      (s.wxiActive = true → s.config.rainMode = .gated → high ≠ s.pins.rainHigh →
        t.wxi = if high = s.config.wetHigh then { s.wxi with wetTimer := some (s.now + 43200000) }
          else { s.wxi with wetTimer := none, rainOk := true }) ∧
      (¬ (s.wxiActive = true ∧ s.config.rainMode = .gated ∧ high ≠ s.pins.rainHigh) →
        t.wxi = s.wxi))

/-- A WEATHER frame of a source in the table, no repeat of its entry, makes that entry LIVE with the frame's
observation brought into range, and the picture and the threat follow; any other is ignored. A LIVE entry's
stale timer makes it STALE, the stale time after its last acceptance and not before (log 2). A picture status or a
held level that changes with them asks for a STATE frame. -/
def Obligations.SourcesFollowTheirFrames : Prop :=
  (∀ (source : Addr) (f : WeatherFields) (s : State), s.Hears source →
    (let heard := s.driveActive = true ∧ ∃ e ∈ s.src.entries, e.address = source.toNat ∧
        ¬ ((e.status = .live ∨ e.status = .stale) ∧ e.lastSeq = some f.sequence.toNat);
      (¬ heard → exec (.weatherFrame source f) s =
        .next (s.taken (.weatherFrame source f)).settle) ∧
      (heard → ∃ t, exec (.weatherFrame source f) s = .next t ∧
        s.Recomputed t (s.src.entries.map (fun e =>
          if e.address = source.toNat then
            { e with
              status := .live, lastSeq := some f.sequence.toNat, acceptedAt := some s.now
              obs :=
                { rain := match f.rain.toNat with
                    | 0 => .dry
                    | 1 => .wet
                    | _ => .rain
                  heavy := f.flags.getLsbD 0 && decide (2 ≤ f.rain.toNat)
                  gust := min 999 f.gust.toNat, mean := min 999 f.mean.toNat
                  direction := if f.direction.toNat < 16 then f.direction.toNat else 255
                  windOk := f.flags.getLsbD 1
                  rainOk := f.flags.getLsbD 2 && decide (f.rain.toNat ≤ 2) } }
          else e)) ∧
        t.base = { s.taken (.weatherFrame source f) with src := t.src, thr := t.thr }.base))) ∧
  (∀ (k : Fin 8) (s : State),
    (∀ e m, s.src.entries[k.val]? = some e → s.driveActive = true → e.status = .live →
      e.acceptedAt = some m → m + s.config.tStale * 1000 ≤ s.now →
      ∃ t, exec (.staleTimerExpiry k) s = .next t ∧
        s.Recomputed t (s.src.entries.set k.val { e with status := .stale }) ∧
        t.base = { s with src := t.src, thr := t.thr }.base) ∧
    (¬ (s.driveActive = true ∧ ∃ e m, s.src.entries[k.val]? = some e ∧ e.status = .live ∧
        e.acceptedAt = some m ∧ m + s.config.tStale * 1000 ≤ s.now) →
      exec (.staleTimerExpiry k) s = .next s.settle))

/-- The picture takes each quantity from the best tier that has a healthy LIVE entry: the wind figures of the
entry with the largest gust, lowest index among equals; the worst rain state; lost quantities at their fixed
values; and the status from the two sources. -/
def Obligations.PictureTakesTheBestTier : Prop :=
  ∀ (entries : List SourceEntry) (started : Bool), let p := pictureOf entries started;
    let wind := fun (tier : Tier) (e : SourceEntry) => e.status = .live ∧ e.tier = tier ∧ e.obs.windOk = true
    let rain := fun (tier : Tier) (e : SourceEntry) => e.status = .live ∧ e.tier = tier ∧ e.obs.rainOk = true;
    (p.windSource = .first ↔ ∃ e ∈ entries, wind .first e) ∧
    (p.windSource = .second ↔ (¬ ∃ e ∈ entries, wind .first e) ∧ ∃ e ∈ entries, wind .second e) ∧
    (∀ tier : Tier, p.windSource = (match tier with | .first => .first | .second => .second) →
      ∃ (i : Nat) (e : SourceEntry), entries[i]? = some e ∧ wind tier e ∧ p.gust = e.obs.gust ∧ p.mean = e.obs.mean ∧
        p.direction = e.obs.direction ∧
        ∀ (j : Nat) (x : SourceEntry), entries[j]? = some x → wind tier x →
          x.obs.gust < e.obs.gust ∨ (x.obs.gust = e.obs.gust ∧ i ≤ j)) ∧
    (p.windSource = .lost → p.gust = 0 ∧ p.mean = 0 ∧ p.direction = 255) ∧
    (p.rainSource = .first ↔ ∃ e ∈ entries, rain .first e) ∧
    (p.rainSource = .second ↔ (¬ ∃ e ∈ entries, rain .first e) ∧ ∃ e ∈ entries, rain .second e) ∧
    (∀ tier : Tier, p.rainSource = (match tier with | .first => .first | .second => .second) →
      (∃ e ∈ entries, rain tier e ∧ e.obs.rain = p.rain) ∧
      (∀ e ∈ entries, rain tier e → e.obs.rain.rank ≤ p.rain.rank) ∧
      (p.heavy = true ↔ ∃ e ∈ entries, rain tier e ∧ e.obs.heavy = true)) ∧
    (p.rainSource = .lost → p.rain = .dry ∧ p.heavy = false) ∧
    (started = false → p.status = .starting) ∧
    (started = true →
      (p.status = .valid ↔ p.windSource = .first ∧ p.rainSource = .first) ∧
      (p.status = .lost ↔ p.windSource = .lost ∧ p.rainSource = .lost) ∧
      (p.status = .partly ↔ (p.windSource = .lost) ≠ (p.rainSource = .lost)) ∧
      p.status ≠ .starting)

/-! ### Threat levels -/

/-- The effective gust and the wind level of a channel, which is its raw level where no rain raises it, and for
which a lost wind source puts the fail-safe level. -/
def Obligations.WindLevelOfAGust : Prop :=
  ∀ (cfg : Settings) (g w : Nat), let e := effectiveGust g w
    e = min 999 (g * w / 16) ∧ e ≤ 999 ∧ (g ≤ 999 → w = 16 → e = g) ∧
    (cfg.gSevere ≤ e → windLevel cfg e = .severe) ∧
    (e < cfg.gSevere → cfg.gClose ≤ e → windLevel cfg e = .close) ∧
    (e < cfg.gSevere → e < cfg.gClose → cfg.gWatch ≤ e → windLevel cfg e = .watch) ∧
    (e < cfg.gSevere → e < cfg.gClose → e < cfg.gWatch → windLevel cfg e = .calm) ∧
    (∀ (set : ChanSettings) (p : Picture), p.rainSource ≠ .lost → p.rain = .dry → p.gust = g → set.weight = w →
      rawLevel cfg set p = if p.windSource = .lost then cfg.failSafe else windLevel cfg e)

/-- The driven-rain figure of a picture against a face, and the rain level of a channel, which is its raw level
where no wind raises it, and for which a lost rain source puts the fail-safe level. -/
def Obligations.RainLevelOfAPicture : Prop :=
  (∀ m d n : Nat, n < 16 →
    drivenRain m d n = m * (if d < 16 then
      (match (((d : Int) - n) % 16).toNat with
      | 0 => 64 | 1 => 59 | 2 => 45 | 3 => 24
      | 4 => 0 | 5 => 0 | 6 => 0 | 7 => 0 | 8 => 0 | 9 => 0 | 10 => 0 | 11 => 0 | 12 => 0
      | 13 => 24 | 14 => 45 | 15 => 59 | _ => 0) else 64) / 64 ∧
    (m ≤ 999 → drivenRain m d n ≤ 999)) ∧
  (∀ (cfg : Settings) (set : ChanSettings) (p : Picture),
    let driven := cfg.drClose ≤ drivenRain p.mean p.direction set.faceNormal;
    (p.rain = .dry → rainLevel cfg set p = .calm) ∧ (p.rain = .wet → rainLevel cfg set p = .watch) ∧
    (p.rain = .rain → set.kind = .skylight →
      rainLevel cfg set p = if p.heavy then .severe else .close) ∧
    (p.rain = .rain → set.kind = .window →
      (driven → rainLevel cfg set p = .close) ∧ (¬ driven → rainLevel cfg set p = .watch)) ∧
    (p.windSource ≠ .lost → windLevel cfg (effectiveGust p.gust set.weight) = .calm →
      rawLevel cfg set p = if p.rainSource = .lost then cfg.failSafe else rainLevel cfg set p))

/-- The raw level is the higher of the two levels, a lost quantity standing at the fail-safe level; and, as R46
and R47 stand (log 38), the held level rises to it at once, keeps a running release-hold timer while the raw
level is lower, starts it when something is to be released, and stops it when the raw level comes back. -/
def Obligations.HeldLevelFollowsTheRaw : Prop :=
  (∀ (cfg : Settings) (set : ChanSettings) (p : Picture),
    let wind := if p.windSource = .lost then cfg.failSafe
      else windLevel cfg (effectiveGust p.gust set.weight)
    let rain := if p.rainSource = .lost then cfg.failSafe else rainLevel cfg set p;
    (rawLevel cfg set p = wind ∨ rawLevel cfg set p = rain) ∧
      wind.rank ≤ (rawLevel cfg set p).rank ∧ rain.rank ≤ (rawLevel cfg set p).rank) ∧
  (∀ (r : Threat) (mode : LatchMode) (hold now : Nat) (raw : Level), let r' := r.apply mode hold now raw;
    r'.raw = raw ∧
    (r.held.rank < raw.rank → r'.held = raw ∧ r'.hold = none ∧
      (r'.latch = true ↔ r.latch = true ∨ (mode = .keep ∧ 2 ≤ raw.rank))) ∧
    (r.held.rank = raw.rank → r'.held = r.held ∧ r'.hold = none ∧ r'.latch = r.latch) ∧
    (raw.rank < r.held.rank → r'.held = r.held ∧ r'.latch = r.latch ∧
      (r.hold.isSome = true → r'.hold = r.hold) ∧
      (r.hold = none → r.latch = true → r.held = .close → r'.hold = none) ∧
      (r.hold = none → (r.latch = false ∨ r.held = .severe) → r'.hold = some (now + hold))))

/-- When a release-hold timer expires the held level becomes the higher of the raw level and the floor, a KEEP
channel that is left at CLOSE or SEVERE latches, and the request table follows a change, for which a STATE frame is
asked for. -/
def Obligations.HoldExpiryReleases : Prop :=
  ∀ (c : Chan) (s : State),
    (s.present c = false ∨ s.dueAt (s.thr.get c).hold = false →
      exec (.releaseHoldExpiry c) s = .next s.settle) ∧
    (s.present c = true → s.dueAt (s.thr.get c).hold = true →
      ∃ t, exec (.releaseHoldExpiry c) s = .next t ∧
        (let h := (s.thr.get c).raw.higher (if (s.thr.get c).latch then .close else .calm);
          t.thr = s.thr.set c
            { raw := (s.thr.get c).raw, held := h, hold := none
              latch := (s.thr.get c).latch || ((s.setting c).latchMode == .keep && h.shut) }) ∧
        s.TablesHear t ∧ t.base = { s with thr := t.thr }.base)

/-! ### Requests -/

/-- An ORDER frame writes the ORDER entry of every present channel whose zone it matches and of no other; an
OPEN is brought into 0..100 and under WATCH to the watch limit, and refused under CLOSE or SEVERE, when the
entry stays as it was; an action that names no order writes nothing. -/
def Obligations.OrdersWriteTheirEntry : Prop :=
  ∀ (source : Addr) (f : OrderFields) (s : State), s.Hears source →
    let cls : Machine.Class := if f.cls = 2 then .building else .user
    let writes := fun (i : Instr) (entry : Chan → Option (Action × Machine.Class × Option Nat)) =>
      ∃ t, exec i s = .next t ∧
        (∀ c, (s.InZone f c → t.asks c .order = entry c) ∧
          (¬ s.InZone f c → t.asks c .order = s.asks c .order) ∧
          t.asks c .weather = s.asks c .weather ∧ t.asks c .panel = s.asks c .panel) ∧
        t.base = (s.taken i).base;
    writes (.orderClose source f) (fun _ => some (.close, cls, none)) ∧
    writes (.orderStop source f) (fun _ => some (.stop, cls, none)) ∧
    writes (.orderShutFor source f) (fun _ => some (.close, cls,
      some (s.now + max 1 (min 240 f.parameter.toNat) * 60000))) ∧
    writes (.orderOpen source f) (fun c =>
      match s.held c with
      | .calm => some (.openTo (min 100 f.parameter.toNat), cls, none)
      | .watch => some (.openTo (min (min 100 f.parameter.toNat) s.config.watchLimit), cls, none)
      | .close => s.asks c .order
      | .severe => s.asks c .order) ∧
    (∀ action, exec (.orderUnknownAction source action f) s =
      .next (s.taken (.orderUnknownAction source action f)).settle)

/-- An UNLATCH, by ACK for each present channel or by an order for the channels it matches, clears a set latch,
stops the release-hold timer and sets the held level to the raw level; a KEEP channel whose raw level is CLOSE
or SEVERE latches again at once; a clear latch makes it of no effect. A changed held level asks for a STATE frame. -/
def Obligations.UnlatchesClearLatches : Prop :=
  ∀ s : State,
    let cleared := fun (t : State) (c : Chan) (target : Prop) =>
      (target → (s.thr.get c).latch = true → t.thr.get c =
        { raw := (s.thr.get c).raw, held := (s.thr.get c).raw, hold := none
          latch := (s.setting c).latchMode == .keep && (s.thr.get c).raw.shut }) ∧
      (¬ (target ∧ (s.thr.get c).latch = true) → t.thr.get c = s.thr.get c);
    (∃ t, exec .ackPress s = .next t ∧ (∀ c, cleared t c (s.present c = true)) ∧ s.TablesHear t ∧
      t.base = { s with thr := t.thr }.base) ∧
    (∀ (source : Addr) (f : OrderFields), s.Hears source →
      ∃ t, exec (.orderUnlatch source f) s = .next t ∧ (∀ c, cleared t c (s.InZone f c)) ∧
        s.TablesHear t ∧ t.base = { s.taken (.orderUnlatch source f) with thr := t.thr }.base)

/-- A fault reset, by ACK for each present channel or by an order for the channels it matches: a FAULT other
than CAL and a BLOCKED channel return to IDLE with fault NONE and count 0 (and, acting at once, can at most
fail afresh on their safety edge); CAL stays; a count is cleared where no run is in progress; a run is not
touched by an order, and of ACK, which gives an UNLATCH too, not in its count and fault, but for the count of one
that a retry expiry of the same instant has just started (log 34). -/
def Obligations.FaultResetsClearFaults : Prop :=
  ∀ s : State,
    let afresh := fun (ch : Channel) =>
      ch.failures = 0 ∨ (ch.failures = 1 ∧ ch.fault = .pinch ∧ ch.runState = .blocked);
    let reset := fun (t : State) (c : Chan) => let ch := s.chan c; let ch' := t.chan c;
      (ch.runState = .fault → ch.fault = .cal → ch'.still = ch.still) ∧
      (ch.runState = .blocked ∨ (ch.runState = .fault ∧ ch.fault ≠ .cal) →
        afresh ch' ∧ ch'.runState ≠ .fault ∧ (ch'.runState ≠ .blocked → ch'.fault = .none) ∧
        (s.supply.status ≠ .good → ch'.failures = 0 ∧ ch'.fault = .none ∧
          (ch'.runState = .idle ∨ ch'.runState = .supplyWait))) ∧
      (ch.runState = .idle ∨ ch.runState = .waitSlot ∨ ch.runState = .supplyWait → afresh ch') ∧
      (ch.runState.energised = true ∨ ch.runState = .coasting → ch.retriedAt ≠ some s.now →
        ch'.failures = ch.failures ∧ ch'.fault = ch.fault) ∧
      (ch.runState.drivingJob = true → ch.retriedAt = some s.now → s.NeverOpensUnderThreat →
        s.HeldCoversRaw → ch'.failures = 0 ∧ ch'.fault = ch.fault);
    (∃ t, exec .ackPress s = .next t ∧ (∀ c, s.present c = true → reset t c)) ∧
    (∀ (source : Addr) (f : OrderFields), s.Hears source →
      ∃ t, exec (.orderResetFault source f) s = .next t ∧ (∀ c, s.InZone f c → reset t c) ∧
        (∀ c, let ch := s.chan c
          let runs := ch.runState.energised = true ∨ ch.runState = .coasting ∨ ch.runState = .dwell
          let retried := s.InZone f c ∧ ch.runState.drivingJob = true ∧ ch.retriedAt = some s.now;
          (¬ s.InZone f c ∨ runs → ch.runState ≠ .waitSlot → ¬ retried → t.chan c = ch) ∧
          (retried → t.chan c = { ch with failures := 0 })) ∧
        s.AsksKept t ∧ t.base = (s.taken (.orderResetFault source f)).base)

/-- A panel button writes the PANEL entry of its channel: STOP while the channel runs the same way, otherwise
OPEN to 100 % under the threat rules, or CLOSE; and the expiry of a SHUT_FOR, when its moment has come, removes
its ORDER entry. A channel
that is not present is left alone. -/
def Obligations.PanelPressesWriteTheirEntry : Prop :=
  ∀ (c : Chan) (s : State),
    let runs := fun d : Dir => ((s.chan c).runState = .starting ∨ (s.chan c).runState = .driving ∨
      (s.chan c).runState = .coasting) ∧ (s.chan c).direction = d;
    let leaves := fun (i : Instr) (o : Origin) (entry : Option (Action × Machine.Class × Option Nat)) =>
      ∃ t, exec i s = .next t ∧ t.asks c o = entry ∧ s.AsksKeptBut t c o ∧ t.base = s.base;
    (s.present c = false → exec (.panelOpenPress c) s = .next s.settle ∧
      exec (.panelClosePress c) s = .next s.settle ∧ exec (.orderExpiry c) s = .next s.settle) ∧
    (s.present c = true →
      (runs .opening → leaves (.panelOpenPress c) .panel (some (.stop, .user, none))) ∧
      (¬ runs .opening → leaves (.panelOpenPress c) .panel (match s.held c with
        | .calm => some (.openTo 100, .user, none)
        | .watch => some (.openTo (min 100 s.config.watchLimit), .user, none)
        | .close => s.asks c .panel
        | .severe => s.asks c .panel)) ∧
      (runs .closing → leaves (.panelClosePress c) .panel (some (.stop, .user, none))) ∧
      (¬ runs .closing → leaves (.panelClosePress c) .panel (some (.close, .user, none))) ∧
      (s.dueAt ((s.table c).order.bind Entry.expiry) = true → leaves (.orderExpiry c) .order none) ∧
      (s.dueAt ((s.table c).order.bind Entry.expiry) = false → exec (.orderExpiry c) s = .next s.settle))

/-- ZONE_CLOSE closes channel 0, and channel 1 when its zone matches channel 0's, and asks for an ORDER frame of
class URGENT: CLOSE, class USER, channel 0's zone, parameter 0. -/
def Obligations.ZoneCloseClosesTheZone : Prop :=
  ∀ s : State,
    let f : OrderFields := { zoneCode := (s.setting .c0).zoneBase, zoneMask := (s.setting .c0).zoneMask
                             cls := 1, parameter := 0 };
    (s.present .c0 = false → exec .zoneClosePress s = .next s.settle) ∧
    (s.present .c0 = true → ∃ t, exec .zoneClosePress s = .next t ∧
      t.asks .c0 .panel = some (.close, .user, none) ∧
      (s.InZone f .c1 → t.asks .c1 .panel = some (.close, .user, none)) ∧
      (¬ s.InZone f .c1 → t.asks .c1 .panel = s.asks .c1 .panel) ∧
      (∀ c, t.asks c .weather = s.asks c .weather ∧ t.asks c .order = s.asks c .order) ∧
      (s.lin.conflict = false → s.lin.attempt ≠ some .order →
        ∃ x, t.lin.queue.order.frame = some x ∧ x.urgent = true ∧ x.content = some (.order 1 f)) ∧
      (s.lin.conflict = false → s.lin.attempt = some .order → s.lin.queue.order.frame.isSome = true →
        ∃ r, t.lin.queue.order.successor = some r ∧ r.urgent = true ∧ r.content = some (.order 1 f)) ∧
      t.base = s.base)

/-- The key switch hands the channels over, in a node whose drives stand under their slots: in LOCAL no request
is in effect but the panel's and a storm's. No entry but SERVICE is written or removed for it, and a STATE frame is
asked for. -/
def Obligations.KeySwitchHandsOver : Prop :=
  ∀ (toLocal : Bool) (s : State), s.DrivesUnderSlot →
    (toLocal = s.pins.keyLocal → exec (.keySwitchChange toLocal) s = .next s.settle) ∧
    (toLocal ≠ s.pins.keyLocal → ∃ t, exec (.keySwitchChange toLocal) s = .next t ∧
      t.pins = { s.pins with keyLocal := toLocal } ∧ s.AsksKept t ∧ s.ReportAsked t ∧
      (∀ c, s.present c = true → toLocal = true →
        t.req.effective.get c = none ∨ t.req.effective.get c = some .panel ∨
        (t.req.effective.get c = some .weather ∧ ∃ e, (t.table c).weather = some e ∧ e.cls = .storm)) ∧
      t.base = { s with pins := t.pins }.base)

/-- The effective request is the effective entry of highest class, and between equal classes the later arrival;
in FAULT, under the commissioning strap and in LOCAL only the entries that the rules leave are effective. -/
def Obligations.EffectiveRequestIsTheBest : Prop :=
  ∀ (s : State) (c : Chan),
    let allowed := fun (o : Origin) (e : Entry) => (s.chan c).runState ≠ .fault ∧
      (s.straps.commissioning = true → o = .panel) ∧
      (s.pins.keyLocal = true → o = .panel ∨ (o = .weather ∧ e.cls = .storm));
    (s.effectiveEntry c = none → ∀ o e, (s.table c).get o = some e → ¬ allowed o e) ∧
    (∀ o e, s.effectiveEntry c = some (o, e) → (s.table c).get o = some e ∧ allowed o e ∧
      ∀ o' e', (s.table c).get o' = some e' → allowed o' e' →
        e'.cls.rank < e.cls.rank ∨ (e'.cls = e.cls ∧ e'.arrival ≤ e.arrival))

/-- A written entry replaces the entry of its origin whole and is the newest of both tables; every other entry
asks what it asked, and two that stay keep their order, whether or not the counter was renumbered. -/
def Obligations.WrittenEntriesAreNewest : Prop :=
  ∀ (s : State) (c : Chan) (o : Origin) (a : Action) (cls : Machine.Class) (expiry : Option Nat),
    s.ArrivalsDistinct → let t := s.writeEntry c o a cls expiry;
    t.ArrivalsDistinct ∧
    (∃ e, (t.table c).get o = some e ∧ e.what = (a, cls, expiry) ∧
      ∀ d p x, (d, p) ≠ (c, o) → (t.table d).get p = some x → x.arrival < e.arrival) ∧
    (∀ d p, (d, p) ≠ (c, o) → t.asks d p = s.asks d p) ∧
    (∀ d p d' p' x y x' y', (d, p) ≠ (c, o) → (d', p') ≠ (c, o) →
      (s.table d).get p = some x → (s.table d').get p' = some y →
      (t.table d).get p = some x' → (t.table d').get p' = some y' →
      (x.arrival < y.arrival ↔ x'.arrival < y'.arrival))

/-! ### Drives -/

/-- A pulse moves the counter one place in the recorded direction, saturating at 0 and L, in every run state;
only a channel that then stands idle on its closed limit may take the limit for position 0 in the same
command. A coast goes on 200 ms from the pulse. -/
def Obligations.PulsesMoveTheCounter : Prop :=
  ∀ (c : Chan) (s : State),
    (s.present c = false → exec (.encoderPulse c) s = .next s.settle) ∧
    (s.present c = true → ∃ t, exec (.encoderPulse c) s = .next t ∧
      ((s.chan c).runState ≠ .idle → (s.chan c).runState ≠ .dwell →
        (t.chan c).position = s.pulsed c) ∧
      ((t.chan c).position = s.pulsed c ∨
        ((s.pin c).closedLimit = true ∧ (t.chan c).position = 0 ∧ (t.chan c).known = true)) ∧
      ((s.chan c).runState = .coasting → (t.chan c).coast = some (s.now + 200) ∧
        (t.chan c).runState = .coasting) ∧
      s.AsksKept t ∧ t.base = s.base)

/-- A pulse of a drive is tested against its stop points: within the coast allowance of the target a SEEK is
switched off, headed for DONE; a homing that exceeds its travel budget away from the closed limit is switched
off, headed for FAULT with TRAVEL; a marker that the pulse passes unseen is counted as a slip, once in a run,
and the second slip loses the position; any other drive goes on. In BACKOFF the pulse counts, and the back-off
setting ends the drive. That a pulse is tested against the stop point before the markers is the model's reading
(log 17), and so is the travel count's end at 130000 (log 27). -/
def Obligations.PulsesServeTheStopPoints : Prop :=
  ∀ (c : Chan) (s : State), s.present c = true →
    let ch := s.chan c; let set := s.setting c
    let stall := if ch.stall.isSome then some (s.now + set.stall) else none;
    (ch.runState.drivingJob = true →
      let stops := ∃ target, ch.seekTarget = some target ∧
        s.pulsed c ≤ target + set.coast ∧ target ≤ s.pulsed c + set.coast
      let spent := isHoming ch.job ch.part = true ∧ ch.direction = .closing ∧
        (s.pin c).closedLimit = false ∧ ch.travelBudget < min 130000 (ch.travelCount + 1)
      let misses := fun p : Nat => s.pulsed c ≠ ch.position ∧ ch.known = true ∧ ch.pinched = false ∧
        set.spacing ≠ 0 ∧ p ≠ 0 ∧ p % set.spacing = 0 ∧ p < set.travel ∧ p ∉ ch.passed ∧
        (ch.direction = .opening → s.pulsed c = p + set.snap + 1) ∧
        (ch.direction = .closing → p = s.pulsed c + set.snap + 1)
      let counted := { ch with
        position := s.pulsed c, stall := stall
        travelCount := if isHoming ch.job ch.part then min 130000 (ch.travelCount + 1)
          else ch.travelCount };
      ∃ t, exec (.encoderPulse c) s = .next t ∧
        (stops → (t.chan c).runState = .coasting ∧ (t.chan c).coast = some (s.now + 200) ∧
          (t.chan c).continuation = .none ∧
          ((t.chan c).known = ch.known → (t.chan c).headed = some .done)) ∧
        (spent → (t.chan c).runState = .coasting ∧ (t.chan c).coast = some (s.now + 200) ∧
          (t.chan c).continuation = .none ∧ (t.chan c).headed = some (.fault .travel)) ∧
        (¬ stops → ¬ spent → ch.direction = .closing ∨ ch.seekTarget.isSome →
          ((∀ p, ¬ misses p) → t = s.withChan c counted) ∧
          (∀ p, misses p → ch.slips = 0 →
            t = s.withChan c { counted with slips := 1, passed := p :: ch.passed }) ∧
          (∀ p, misses p → 1 ≤ ch.slips → (t.chan c).still =
            { counted.off s.now (some .positionLost) .none with
              known := false, slips := 0, passed := [], standing := none }))) ∧
    (ch.runState = .backoff → ch.direction = .opening →
      let counted := { ch with
        position := s.pulsed c, stall := stall, backoffCount := ch.backoffCount + 1 };
      exec (.encoderPulse c) s = .next (s.withChan c
        (if set.backoff ≤ ch.backoffCount + 1 then counted.off s.now ch.headed .none else counted)))

/-- The closed limit in a closing drive or its coast sets the counter to 0 and makes it KNOWN, and ends the
drive: for DONE, or with the SEEK part to follow, unless the retest finds the OPEN satisfied at 0; a homing from
UNKNOWN that served the SERVICE entry alone is left with no request, and heads for STOPPED (the model's reading,
log 18); in any other run state than IDLE it changes no channel. The open limit ends an opening drive for DONE
and a back-off as it was headed. -/
def Obligations.LimitsEndDrives : Prop :=
  ∀ (c : Chan) (active : Bool) (s : State),
    let ch := s.chan c; let set := s.setting c
    let closing := active = true ∧ s.present c = true ∧ ch.direction = .closing ∧
      (ch.runState.drivingJob = true ∨ ch.runState = .coasting)
    let plain := ch.known = true ∨ ((s.table c).service = none ∧ ch.standing = none);
    (active = (s.pin c).closedLimit → exec (.closedLimitChange c active) s = .next s.settle) ∧
    (active ≠ (s.pin c).closedLimit → ∃ t, exec (.closedLimitChange c active) s = .next t ∧
      t.pin c = { s.pin c with closedLimit := active } ∧
      (closing → (t.chan c).position = 0 ∧ (t.chan c).known = true ∧ (t.chan c).slips = 0 ∧
        (t.chan c).runState = .coasting) ∧
      (closing → ch.runState.drivingJob = true → (t.chan c).coast = some (s.now + 200)) ∧
      (closing → ch.runState.drivingJob = true → plain →
        (∀ target, ch.job = some (.homeThenSeek target) → ch.part = some .homePart →
          t.chan c = { ch.off s.now none (.job (.homeThenSeek target) (some .seekPart)) with
            position := 0, known := true, slips := 0 }) ∧
        ((∀ target, ch.job = some (.homeThenSeek target) → ch.part ≠ some .homePart) →
          t.chan c = { ch.off s.now (some .done) .none with position := 0, known := true, slips := 0 })) ∧
      (closing → ch.runState = .coasting → plain →
        t.chan c = { ch with position := 0, known := true, slips := 0 }) ∧
      (closing → ch.runState.drivingJob = true → ch.known = false →
        let found := fun (headed : Option Heading) (k : Continuation) (h : Option Standing) =>
          { ch.off s.now headed k with position := 0, known := true, slips := 0, standing := h };
        (∀ o e, (s.table c).service = none → s.effectiveEntry c = some (o, e) →
          ch.standing = some { origin := o, action := e.action, cls := e.cls, satisfied := false } →
          let met : Standing := { origin := o, action := e.action, cls := e.cls, satisfied := true };
          (ch.job = some .home → e.action = .close →
            t.chan c = found (some .done) .none (some met)) ∧
          (∀ target p, ch.job = some (.homeThenSeek target) → ch.part = some .homePart →
            e.action = .openTo p →
            (min p 100 * set.travel / 100 ≤ set.coast + 4 →
              t.chan c = found (some .done) .none (some met)) ∧
            (set.coast + 4 < min p 100 * set.travel / 100 →
              t.chan c = found none (.job (.homeThenSeek target) (some .seekPart)) ch.standing))) ∧
        (ch.job = some .home → (s.table c).service.isSome = true →
          (∀ o, o ≠ .service → (s.table c).get o = none) → s.req.effective.get c = some .service →
          t.chan c = found (some .stopped) .none none)) ∧
      (¬ closing → ch.runState ≠ .idle → t.chan c = ch) ∧
      s.AsksKept t ∧ t.base = { s with pins := t.pins }.base ∧
      t.pin (chanOther c) = s.pin (chanOther c)) ∧
    exec (.openLimitActive c active) s = .next (State.withChan
      { s with pins := { s.pins with ch := s.pins.ch.set c { s.pin c with openLimit := active } } } c
      (if active = true ∧ (s.pin c).openLimit = false ∧ s.present c = true then
        (if ch.runState.drivingJob = true ∧ ch.direction = .opening then ch.off s.now (some .done) .none
        else if ch.runState = .backoff then ch.off s.now ch.headed .none
        else ch)
      else ch))

/-- The timers of a drive: when the ramp's midpoint has come the stall timer starts, when its end has come the
channel is DRIVING; the over-current timer follows the comparator while the driver is energised, against the
threshold with the calibration offset. That the comparator is active strictly above its threshold, and always at a
threshold of 0, is the model's reading (log 15). -/
def Obligations.DriveTimersFollowTheDrive : Prop :=
  ∀ (c : Chan) (s : State), let ch := s.chan c;
    exec (.rampMidpoint c) s = .next (s.withChan c
      (if s.present c = true ∧ ch.runState = .starting ∧ s.dueAt ch.rampMid = true then
        { ch with rampMid := none, stall := some (s.now + (s.setting c).stall) }
      else ch)) ∧
    exec (.rampEnd c) s = .next (s.withChan c
      (if s.present c = true ∧ ch.runState = .starting ∧ s.dueAt ch.rampEnd = true then
        { ch with
          runState := .driving, rampMid := none, rampEnd := none
          stall := if ch.stall.isSome then ch.stall else some (s.now + (s.setting c).stall) }
      else ch)) ∧
    (∀ sensed : Byte, exec (.overcurrentChange c sensed) s = .next (State.withChan
      { s with pins := { s.pins with ch := s.pins.ch.set c { s.pin c with sensed := sensed.toNat } } } c
      (let threshold := min 255 ((s.setting c).overcurrent + ch.calOffset)
       if s.present c = true ∧ ch.runState.energised = true then
        { ch with overcurrent :=
          if threshold = 0 ∨ threshold < sensed.toNat then
            (if ch.overcurrent.isSome then ch.overcurrent else some (s.now + 100))
          else none }
      else ch)))

/-- A failure of a drive switches the driver off in the same command, headed for FAULT with its kind: OVERRUN,
when the energised time has reached twice the claimed estimate, a silent stall and a current stall, when their
timers have run out, or a pinch, which records a back-off; in BACKOFF the run stays headed as it was, and where
no driver is energised nothing happens. -/
def Obligations.FailuresSwitchTheDriverOff : Prop :=
  ∀ (c : Chan) (s : State), let ch := s.chan c
    let failed := fun kind : FaultKind =>
      if ch.runState = .starting ∨ ch.runState = .driving then ch.off s.now (some (.fault kind)) .none
      else if ch.runState = .backoff then ch.off s.now ch.headed .none
      else ch;
    exec (.overrun c) s = .next (s.withChan c
      (if s.present c = true ∧ ∃ e, ch.estimate = some e ∧ 2000 * e ≤ ch.overrunMs then failed .overrun
      else ch)) ∧
    exec (.stallTimerExpiry c) s = .next (s.withChan c
      (if s.present c = true ∧ s.dueAt ch.stall = true then failed .stallSilent else ch)) ∧
    exec (.overcurrentTimerExpiry c) s = .next (s.withChan c
      (if s.present c = true ∧ s.dueAt ch.overcurrent = true then failed .stallCurrent else ch)) ∧
    (∀ active, exec (.safetyEdgeActive c active) s = .next (State.withChan
      { s with pins := { s.pins with ch := s.pins.ch.set c { s.pin c with edge := active } } } c
      (if active = true ∧ (s.pin c).edge = false ∧ s.present c = true ∧
          (ch.runState = .starting ∨ ch.runState = .driving) ∧ ch.direction = .closing then
        { ch.off s.now (some (.fault .pinch)) .backoff with pinched := true }
      else ch)))

/-- When a coast ends, a run headed for FAULT counts its failure, BLOCKED at the first and second and FAULT at
the third, and gives up its claim; a run headed for SUPPLY waits for the supply unless it is GOOD again; any
other passes to IDLE, and the slot is given up with the cause's outcome (stated where no new run begins in the
same command, which it can only under a LOCAL slot granted at once). A run state that so becomes IDLE, BLOCKED or
FAULT asks for a STATE frame. A reversal dwells before it goes on, and a back-off drives opening while its slot is in
force. -/
def Obligations.CoastsEndTheRun : Prop :=
  ∀ (c : Chan) (s : State), let ch := s.chan c; let set := s.setting c
    let n := min 3 (ch.failures + 1)
    let ended := fun x : EndCause =>
      { ch with
        lastEnd := x, job := none, part := none, continuation := .none, headed := none
        estimate := none, claimedJob := none, rampMid := none, rampEnd := none, coast := none
        dwell := none, stall := none, overcurrent := none, standing := none };
    (s.present c = false ∨ ch.runState ≠ .coasting ∨ s.dueAt ch.coast = false →
      exec (.coastEnd c) s = .next s.settle) ∧
    (s.present c = true → ch.runState = .coasting → s.dueAt ch.coast = true → ∃ t, exec (.coastEnd c) s = .next t ∧
      s.AsksKept t ∧ t.base = s.base ∧
      (ch.continuation = .none → ∀ kind, ch.headed = some (.fault kind) →
        (t.chan c).still = { ended .fault with
          failures := n, fault := kind, runState := if n < 3 then .blocked else .fault
          retry := if n < 3 then some (s.now + set.retry * 1000) else none } ∧
        (t.claim c).state = .none ∧ s.Released t c .fault) ∧
      (ch.continuation = .none → ∀ h, ch.headed = some h → h ≠ .supply ∨ s.supply.status = .good →
        s.ReportAsked t) ∧
      (ch.continuation = .none → ch.headed = some .supply → s.supply.status ≠ .good →
        (t.chan c).still = { ended .supply with runState := .supplyWait } ∧
        (t.claim c).state = .none ∧ s.Released t c .supply) ∧
      (ch.continuation = .none → s.NoRunAtOnce c → ∀ h, ch.headed = some h →
        (h = .done ∨ h = .stopped ∨ h = .yielded ∨ h = .positionLost ∨
          (h = .supply ∧ s.supply.status = .good)) →
        s.RunEnded t c h ∧
        ((t.chan c).runState = .idle ∨ (t.chan c).runState = .supplyWait ∨
          (t.chan c).runState = .waitSlot) ∧
        (s.supply.status ≠ .good ∨ s.Rests c → (t.claim c).state = .none ∧ (t.chan c).job = none) ∧
        (s.Rests c → (t.chan c).runState = .idle)) ∧
      (∀ j part d, ch.continuation = .job j part → movement ch.position j part = some d →
        d ≠ ch.direction →
        t = s.withChan c { ch with runState := .dwell, coast := none, dwell := some (s.now + set.dwell) }) ∧
      (ch.continuation = .backoff → 0 < set.backoff → s.slotInForce c = true →
        t = s.withChan c { ch with
          runState := .backoff, direction := .opening, backoffCount := 0, continuation := .none
          coast := none, stall := some (s.now + set.stall)
          overcurrent := if s.comparatorActive c then some (s.now + 100) else none }) ∧
      (ch.continuation = .backoff → ¬ (0 < set.backoff ∧ s.slotInForce c = true) →
        ch.headed = some (.fault .pinch) →
        (t.chan c).fault = .pinch ∧ (t.chan c).failures = n ∧ (t.claim c).state = .none ∧
          s.Released t c .fault ∧ s.ReportAsked t))

/-- When a dwell ends, or a coast whose job goes on the same way, the drive starts under the same claim where
the limits, the safety edge, the held level and the slot allow it: direction, ramp and budget afresh, the
overrun clock going on. A start that meets the limit of its direction ends the run DONE, a closing one with the
counter at 0 and KNOWN (stated where no new run begins in the same command, which it can only under a LOCAL slot
granted at once), an opening one that a held level of CLOSE or SEVERE bars STOPPED, and a closing one that meets
an active safety edge counts a PINCH (that a closing one at its limit ends DONE, and that a limit is tested
first, is the model's choice, log 47). A hand-over in a drive stops it, retargets it without switching the
driver off, or reverses it; in a coast or dwell it changes what follows; new values renew the claim and set the
overrun clock to zero. That the claim is renewed when the job differs from the present one in a drive, or from
the claimed one in a coast or dwell, so also when a SEEK part is handed an OPEN of the same target, is the
model's reading (log 24), and so it is that the ramp's midpoint falls on a whole millisecond, half the ramp time
rounded down (log 28). A run that ends so asks for a STATE frame. -/
def Obligations.DrivesGoOnUnderTheirClaim : Prop :=
  ∀ (c : Chan) (s : State), let ch := s.chan c; let set := s.setting c;
    (s.present c = false ∨ ch.runState ≠ .dwell ∨ s.dueAt ch.dwell = false →
      exec (.dwellEnd c) s = .next s.settle) ∧
    (∀ i j part d, (i = .dwellEnd c ∧ ch.runState = .dwell ∧ s.dueAt ch.dwell = true) ∨
        (i = .coastEnd c ∧ ch.runState = .coasting ∧ s.dueAt ch.coast = true ∧ d = ch.direction) →
      s.present c = true → ch.continuation = .job j part → movement ch.position j part = some d →
      (s.slotInForce c = true → (d = .closing → (s.pin c).closedLimit = false ∧ (s.pin c).edge = false) →
        (d = .opening → (s.pin c).openLimit = false ∧ (s.held c).shut = false) →
        exec i s = .next (s.withChan c { ch with
          runState := if set.ramp = 0 then .driving else .starting
          job := some j, part := part, direction := d, continuation := .none, headed := none
          coast := none, dwell := none
          rampMid := if set.ramp = 0 then none else some (s.now + set.ramp / 2)
          rampEnd := if set.ramp = 0 then none else some (s.now + set.ramp)
          stall := if set.ramp = 0 then some (s.now + set.stall) else none
          overcurrent := if s.comparatorActive c then some (s.now + 100) else none
          travelCount := if isHoming (some j) part then 0 else ch.travelCount
          travelBudget := if isHoming (some j) part then
            (if ch.known then ch.position else set.travel) + set.travel / 8 else ch.travelBudget
          passed := set.markWindow ch.position ch.passed })) ∧
      (d = .closing → (s.pin c).closedLimit = false → (s.pin c).edge = true →
        ∃ t, exec i s = .next t ∧ (t.chan c).fault = .pinch ∧
          (t.chan c).failures = min 3 (ch.failures + 1) ∧ (t.chan c).lastEnd = .fault ∧
          ((t.chan c).runState = .blocked ∨ (t.chan c).runState = .fault) ∧ s.ReportAsked t ∧
          (t.claim c).state = .none ∧ s.Released t c .fault ∧ s.AsksKept t ∧ t.base = s.base) ∧
      (let ends := fun h : Heading => ∃ t, exec i s = .next t ∧ (s.NoRunAtOnce c → s.RunEnded t c h) ∧
          s.AsksKept t ∧ t.base = s.base;
        (d = .opening → (s.pin c).openLimit = true → ends .done) ∧
        (d = .opening → (s.pin c).openLimit = false → (s.held c).shut = true → ends .stopped) ∧
        (d = .closing → (s.pin c).closedLimit = true →
          let atZero := s.setChan c { ch with position := 0, known := true };
          ∃ t, exec i s = .next t ∧ (t.chan c).position = 0 ∧ (t.chan c).known = true ∧
            (s.supply.status ≠ .good ∨ s.isolated = false ∨ atZero.Rests c → s.RunEnded t c .done) ∧
            s.AsksKept t ∧ t.base = s.base))) ∧
    (∀ h : Option Standing, let e := s.handOver c h
      let got := { ch with standing := h }
      let driving := ch.runState = .starting ∨ ch.runState = .driving
      let final := ∃ x, ch.headed = some x ∧ (x = .yielded ∨ x = .positionLost ∨ x = .supply ∨
        ∃ kind, x = .fault kind)
      let rest := fun last : Heading => (last = .stopped ∧ (h = none ∨ ∃ x, h = some x ∧ x.action = .stop)) ∨
        (last = .done ∧ ∃ x, h = some x ∧ x.action ≠ .stop ∧ x.satisfied = true);
      (∀ last, rest last → driving → e = (s.setChan c (got.off s.now (some last) .none), [])) ∧
      (∀ last, rest last → ch.runState = .coasting → ¬ final →
        e = (s.setChan c { got with continuation := .none, headed := some last }, [])) ∧
      (∀ last, rest last → ch.runState = .dwell → ¬ final →
        (e.1.chan c).runState = .idle ∧ (e.1.chan c).lastEnd = last.cause ∧
          (e.1.claim c).state = .none) ∧
      (ch.runState = .coasting ∨ ch.runState = .dwell → final → e = (s.setChan c got, [])) ∧
      (∀ x j, h = some x → x.satisfied = false → chooseJob ch.known set.travel x.action = some j →
        let d := movement ch.position j j.firstPart
        let est := ch.estimateOf set j
        let otherClass := ∀ v, (s.claim c).current = some v → v.cls ≠ x.cls
        let renews := fun again : Channel =>
          { again with estimate := some est, claimedJob := some j, overrunMs := 0 }
        let takes := fun (changed : Prop) (old new : Channel) =>
          (changed → e.2 = [] ∧ e.1.chan c = new ∧ s.Renewed e.1 c { cls := x.cls, estimate := est }) ∧
          (¬ changed → e = (s.setChan c old, []));
        (driving → d = none ∨ d = some ch.direction →
          let fresh := isHoming (some j) j.firstPart = true ∧ isHoming ch.job ch.part = false
          let old := { got with
            job := some j, part := j.firstPart
            travelCount := if fresh then 0 else ch.travelCount
            travelBudget := if fresh then (if ch.known then ch.position else set.travel) + set.travel / 8
              else ch.travelBudget }
          let stop := fun again : Channel => match j with
            | .seek target =>
              if ch.position ≤ target + set.coast ∧ target ≤ ch.position + set.coast then
                again.off s.now (some .done) .none
              else again
            | .home => again
            | .homeThenSeek _ => again;
          takes (ch.job ≠ some j ∨ otherClass) (stop old) (stop (renews old))) ∧
        (driving → ∀ way, d = some way → way ≠ ch.direction →
          takes True got (renews (got.off s.now none (.job j j.firstPart)))) ∧
        (ch.runState = .coasting ∨ ch.runState = .dwell → ¬ final →
          let old := { got with continuation := .job j j.firstPart, headed := none };
          takes (ch.claimedJob ≠ some j ∨ otherClass) old (renews old))))

/-- The motor supply (SUPPLY_RETURN acts only from LOW, the model's reading, log 23): LOW at the comparator's
fall, when every drive stops, headed for SUPPLY, and every wait for a slot becomes a wait for the supply;
RECOVERING for 2 s at its return; then GOOD, when no present channel goes on waiting for it. -/
def Obligations.MotorSupplyIsFollowed : Prop :=
  ∀ s : State,
    (∃ t, exec .supplyLow s = .next t ∧
      (s.driveActive = false ∨ s.supply.status = .low →
        t = State.settle { s with pins := { s.pins with supplyGood := false } }) ∧
      (s.driveActive = true → s.supply.status ≠ .low →
        t.supply = { status := .low, qualify := none } ∧ s.AsksKept t ∧
        t.base = { s with pins := { s.pins with supplyGood := false }, supply := t.supply }.base ∧
        ∀ c, s.present c = true → let ch := s.chan c;
          (ch.runState.energised = true → (t.chan c) = ch.off s.now (some .supply) .none) ∧
          (ch.runState = .coasting → ch.continuation ≠ .none →
            t.chan c = { ch with continuation := .none, headed := some .supply }) ∧
          (ch.runState = .coasting → ch.continuation = .none → t.chan c = ch) ∧
          (ch.runState = .dwell → (t.chan c).runState = .supplyWait ∧ (t.chan c).lastEnd = .supply ∧
            (t.chan c).failures = ch.failures ∧ (t.claim c).state = .none) ∧
          (ch.runState = .waitSlot → (t.chan c) =
              { ch with runState := .supplyWait, job := none, part := none, estimate := none
                        claimedJob := none } ∧
            (t.claim c).state ≠ .claiming ∧ (t.claim c).state ≠ .waiting) ∧
          (ch.runState = .idle ∨ ch.runState = .supplyWait ∨ ch.runState = .blocked ∨
            ch.runState = .fault → t.chan c = ch))) ∧
    exec .supplyReturn s = .next (State.settle
      (if s.driveActive = true ∧ s.supply.status = .low then
        { s with
          pins := { s.pins with supplyGood := true }
          supply := { status := .recovering, qualify := some (s.now + 2000) } }
      else { s with pins := { s.pins with supplyGood := true } })) ∧
    (¬ (s.supply.status = .recovering ∧ s.dueAt s.supply.qualify = true) →
      exec .supplyQualified s = .next s.settle) ∧
    (s.supply.status = .recovering → s.dueAt s.supply.qualify = true →
      ∃ t, exec .supplyQualified s = .next t ∧ t.supply = { status := .good, qualify := none } ∧
        (∀ c, s.present c = true → (t.chan c).runState ≠ .supplyWait) ∧
        s.AsksKept t ∧ t.base = { s with supply := t.supply }.base)

/-- A marker edge within the snap tolerance of a marker sets the counter to it, the slip count to 0 and the
marker's passed flag, and a stop point that the snap brings the counter onto or past ends the drive; any other
is a slip, and the second slip loses the position. -/
def Obligations.MarkersCorrectTheCounter : Prop :=
  ∀ (c : Chan) (s : State), let ch := s.chan c; let set := s.setting c
    let p := set.spacing * ((2 * ch.position + set.spacing) / (2 * set.spacing))
    let watched := s.present c = true ∧ set.spacing ≠ 0 ∧ ch.known = true ∧ ch.pinched = false ∧
      (ch.runState = .starting ∨ ch.runState = .driving ∨ ch.runState = .coasting ∨ ch.runState = .dwell)
    let snaps := p ≠ 0 ∧ p < set.travel ∧ ch.position ≤ p + set.snap ∧ p ≤ ch.position + set.snap;
    (¬ watched → exec (.markerEdge c) s = .next s.settle) ∧
    (watched → snaps →
      let ch' := { ch with position := p, slips := 0, passed := setMark p ch.passed }
      let stops := ch.runState.drivingJob = true ∧ ∃ target, ch.seekTarget = some target ∧
        ((p ≤ target + set.coast ∧ target ≤ p + set.coast) ∨ (ch.position ≤ target ∧ target ≤ p) ∨
          (p ≤ target ∧ target ≤ ch.position));
      (stops → exec (.markerEdge c) s = .next (s.withChan c (ch'.off s.now (some .done) .none))) ∧
      (¬ stops → exec (.markerEdge c) s = .next (s.withChan c ch'))) ∧
    (watched → ¬ snaps → ch.slips = 0 →
      exec (.markerEdge c) s = .next (s.withChan c { ch with slips := 1 })) ∧
    (watched → ¬ snaps → 1 ≤ ch.slips → ∃ t, exec (.markerEdge c) s = .next t ∧
      s.AsksKept t ∧ t.base = s.base ∧ ((t.chan c).known = false ∨ (s.pin c).closedLimit = true) ∧
      (ch.runState = .starting ∨ ch.runState = .driving →
        (t.chan c).still = { ch.off s.now (some .positionLost) .none with
          known := false, slips := 0, passed := [], standing := none }) ∧
      (ch.runState = .coasting → (t.chan c).still = { ch with
        known := false, slips := 0, passed := [], continuation := .none, standing := none
        headed := if ch.headed.any Heading.final then ch.headed else some .positionLost }))

/-- A BLOCKED channel's retry delay expires: the fault is NONE and the channel is IDLE with its failure count
kept; acting at once on its request, it can at most fail afresh on its safety edge. In IDLE every hand-over, also
the one that follows a stop by the held level, becomes the standing request and is acted on. A channel in IDLE
acts on its standing request: an unsatisfied CLOSE or OPEN chooses the job and waits for a slot with its estimate,
making a claim under the node's next token, or in isolated operation starting under the LOCAL slot, which goes
to the waiting channel of higher class, channel 0 of equals; or it waits for the supply; it stays where the held
level or the open limit forbids the movement, and takes position 0 from an active closed limit. A hand-over in
WAIT_SLOT of an unsatisfied CLOSE or OPEN chooses job and estimate afresh, whose values replace those of an
unsent CLAIM and otherwise wait as the claim's current ones; none, STOP, a satisfied one, or an opening that the
held level forbids, takes the channel back to IDLE with its claim withdrawn: an unsent CLAIM is cancelled, any
other released WITHDRAWN, a waiting claim loses its timers. -/
def Obligations.RetriesReturnToIdle : Prop :=
  ∀ (c : Chan) (s : State), s.CountsBounded → let ch := s.chan c; let set := s.setting c
    let retries := s.present c = true ∧ ch.runState = .blocked ∧ s.dueAt ch.retry = true
    let rests := ∀ x, ch.standing = some x → x.satisfied = true ∨ x.action = .stop
    let asks := fun (x : Standing) (j : Job) (d : Dir) (pulses : Nat) =>
      let est := max 1 (min 255 ((pulses + set.speed - 1) / set.speed + (set.ramp + 999) / 1000 + 1))
      let v : ClaimVals := { cls := x.cls, estimate := est }
      let free := (d = .closing ∧ (s.pin c).closedLimit = false) ∨
        (d = .opening ∧ (s.pin c).openLimit = false ∧ (s.held c).shut = false)
      let token := (s.rsu.tokenCounter + 1) % 256;
      (d = .opening → ¬ free → s.handle (.decide c) = (s, [])) ∧
      (d = .closing → ¬ free → s.handle (.decide c) =
        if ch.known = true ∧ ch.position = 0 then (s, [])
        else (s.setChan c { ch with position := 0, known := true }, [.report c, .decide c])) ∧
      (free → s.supply.status ≠ .good → s.handle (.decide c) =
        (s.setChan c { ch with runState := .supplyWait, job := none, part := none }, [])) ∧
      (free → s.supply.status = .good → (s.claim c).state = .none →
        let t := drain 2 [.decide c] s;
        t.chan c = { ch with
          runState := .waitSlot, job := some j, estimate := some est, claimedJob := some j
          part := match j with
            | .homeThenSeek _ => some .homePart
            | .home => none
            | .seek _ => none } ∧
        (s.phase = .running → s.isolated = false →
          t.claim c = { s.claim c with
            state := .claiming, token := token, current := some v, announcedVals := some v
            announced := false, heard := (s.claim c).heard.erase token, completion := none
            window := none, stagger := none, retry := none } ∧
          t.rsu.tokenCounter = token ∧
          (s.lin.conflict = false → s.lin.attempt ≠ some (.claim c) → t.ClaimQueued c token v 0)) ∧
        (s.phase ≠ .running ∨ s.isolated = true →
          t.claim c = { s.claim c with current := some v } ∧ t.lin = s.lin) ∧
        (s.phase = .running → s.isolated = true → s.holdsNone (chanOther c) = true →
          (s.chan (chanOther c)).runState ≠ .waitSlot → s.energised (chanOther c) = false →
          (d = .closing → (s.pin c).edge = false) →
          let u := drain 4 [.decide c] s;
          u.claim c = { s.claim c with state := .localRun, current := some v } ∧ u.lin = s.lin ∧
          (u.chan c).runState = (if set.ramp = 0 then .driving else .starting) ∧
          (u.chan c).direction = d ∧ (u.chan c).job = some j));
    (let waits := fun d : Chan => s.present d = true ∧ (s.chan d).runState = .waitSlot ∧
        (s.claim d).state = .none ∧ (s.claim (chanOther d)).state ≠ .held ∧
        (s.claim (chanOther d)).state ≠ .localRun
      let best := waits c ∧ (¬ waits (chanOther c) ∨
        (s.claim (chanOther c)).vals.cls.rank < (s.claim c).vals.cls.rank ∨
        ((s.claim (chanOther c)).vals.cls.rank = (s.claim c).vals.cls.rank ∧ c = .c0));
      (s.isolated = true → s.phase = .running → best → s.handle .localSlot =
        (s.setClaim c { s.claim c with state := .localRun }, [.granted c])) ∧
      (s.isolated = false ∨ s.phase ≠ .running ∨ (¬ waits c ∧ ¬ waits (chanOther c)) →
        s.handle .localSlot = (s, []))) ∧
    (ch.runState = .idle → ∀ h, s.handOverStopped c h = s.handOver c h ∧
      s.handOver c h = (s.setChan c { ch with standing := h }, [.decide c])) ∧
    (s.present c = true → ch.runState = .idle →
      (rests → s.handle (.decide c) = (s, [])) ∧
      (∀ x, ch.standing = some x → x.satisfied = false →
        (x.action = .close →
          asks x .home .closing ((if ch.known then ch.position else set.travel) + set.travel / 8)) ∧
        (∀ p, x.action = .openTo p → let target := min p 100 * set.travel / 100;
          (ch.known = true → ch.position < target →
            asks x (.seek target) .opening (target - ch.position)) ∧
          (ch.known = true → target < ch.position →
            asks x (.seek target) .closing (ch.position - target)) ∧
          (ch.known = false →
            asks x (.homeThenSeek target) .closing (set.travel + set.travel / 8 + target))))) ∧
    (ch.runState = .waitSlot → ∀ h : Option Standing,
      let e := s.handOver c h; let t := e.1; let r := s.claim c
      let place := s.lin.queue.get (.claim c); let behind := s.lin.queue.get (.release c)
      let own := fun renew : Byte => ∃ f, place.frame = some f ∧
        ∃ g, f.content.bind Content.claim? = some g ∧ g.token = BitVec.ofNat 8 r.token ∧ g.renew = renew
      let kept := ∀ p, p ≠ .report → t.lin.queue.get p = s.lin.queue.get p
      let leaves :=
        t.chan c = { ch with
          standing := h, runState := .idle, job := none, part := none, estimate := none
          claimedJob := none, retry := none } ∧
        e.2 = [.report c, .decide c] ∧
        (r.state = .none → t.claim c = r ∧ kept) ∧
        (r.state = .waiting →
          t.claim c = { r with state := .none, stagger := none, retry := none } ∧ kept) ∧
        (r.state = .claiming → t.claim c = { r with state := .none, window := none } ∧
          (s.lin.conflict = false → place.successor = none →
            (s.lin.attempt ≠ some (.claim c) → own 0 → t.lin.queue.get (.claim c) = .reset ∧
              t.lin.queue.get (.release c) = behind) ∧
            (place.frame = none ∨ s.lin.attempt = some (.claim c) → behind.frame = none →
              t.lin.queue.get (.claim c) = place ∧ t.ReleaseQueued c r.token .withdrawn)))
      let takes := fun (x : Standing) (j : Job) (opens : Prop) (pulses : Nat) =>
        let est := max 1 (min 255 ((pulses + set.speed - 1) / set.speed + (set.ramp + 999) / 1000 + 1))
        let v : ClaimVals := { cls := x.cls, estimate := est };
        (opens ∧ (s.held c).shut = true → leaves) ∧
        (¬ (opens ∧ (s.held c).shut = true) → e.2 = [] ∧
          t.chan c = { ch with
            standing := h, job := some j, estimate := some est, claimedJob := some j
            part := match j with
              | .homeThenSeek _ => some .homePart
              | .home => none
              | .seek _ => none } ∧
          (r.state = .claiming → r.announced = false → s.lin.attempt ≠ some (.claim c) →
            t.claim c = { r with current := some v, announcedVals := some v } ∧
            (s.lin.conflict = false → t.ClaimQueued c r.token v 0)) ∧
          (r.state ≠ .claiming ∨ r.announced = true ∨ (s.lin.attempt = some (.claim c) ∧ own 0) →
            t.claim c = { r with current := some v } ∧ t.lin = s.lin));
      (h = none → leaves) ∧
      (∀ x, h = some x →
        (x.action = .stop ∨ x.satisfied = true → leaves) ∧
        (x.satisfied = false → x.action = .close →
          takes x .home False ((if ch.known then ch.position else set.travel) + set.travel / 8)) ∧
        (x.satisfied = false → ∀ p, x.action = .openTo p → let target := min p 100 * set.travel / 100;
          (ch.known = true → takes x (.seek target) (ch.position < target)
            ((target - ch.position) + (ch.position - target))) ∧
          (ch.known = false →
            takes x (.homeThenSeek target) False (set.travel + set.travel / 8 + target))))) ∧
    (¬ retries → exec (.retryDelayExpiry c) s = .next s.settle) ∧
    (retries → ∃ t, exec (.retryDelayExpiry c) s = .next t ∧ s.AsksKept t ∧ t.base = s.base ∧
      (t.chan c).failures ≤ min 3 (ch.failures + 1) ∧
      ((t.chan c).fault = .none ∨ ((t.chan c).fault = .pinch ∧
        ((t.chan c).runState = .blocked ∨ (t.chan c).runState = .fault))) ∧
      (s.NoRunAtOnce c → (t.chan c).fault = .none ∧ (t.chan c).failures = ch.failures ∧
        ((t.chan c).runState = .idle ∨ (t.chan c).runState = .supplyWait ∨
          (t.chan c).runState = .waitSlot)))

/-! ### Run slots -/

/-- CLAIMs and RELEASEs of the node's segment keep the run table: a CLAIM sets the entry of its node and
channel, a full table losing the entry that expires first, lowers the working capacity and makes a lower-class
run yield, with a RELEASE YIELDED queued, or in isolated operation owed (the model's reading, log 22); a
RELEASE, whose token must match, and an expiry, whose moment must have come, remove entries. -/
def Obligations.RunTableFollowsTheSegment : Prop :=
  (∀ (source : Addr) (f : ClaimFields) (s : State), s.Hears source →
    let capacity := max 1 (min 4 f.capacity.toNat)
    let estimate := max 1 f.estimate.toNat
    let heard := s.driveActive = true ∧ s.config.segment ≠ 0 ∧ f.segment.toNat = s.config.segment;
    (¬ (heard ∧ f.channel.toNat ≤ 1 ∧ f.cls.toNat ≤ 4) →
      exec (.claimFrame source f) s = .next (s.taken (.claimFrame source f)).settle) ∧
    (heard → ∀ c cls, f.channel.toNat = chanNat c → f.cls.toNat = cls.rank →
      ∃ t, exec (.claimFrame source f) s = .next t ∧
        (∃ e ∈ t.rsu.table, e = {
            node := source.toNat, chan := c, cls := cls, token := f.token.toNat, estimate := estimate
            arrival := e.arrival, settled := f.renew != 0
            expiry := s.now + (2 * estimate + 5) * 1000 } ∧
          (f.renew = 0 ∨ (∀ x ∈ s.rsu.table, x.key ≠ (source.toNat, c)) → e.arrival = s.now) ∧
          (f.renew ≠ 0 → s.TableBounded → ∀ x ∈ s.rsu.table, x.key = (source.toNat, c) →
            e.arrival = x.arrival)) ∧
        (∀ x ∈ t.rsu.table, x.key ≠ (source.toNat, c) → x ∈ s.rsu.table) ∧
        ((∃ x ∈ s.rsu.table, x.key = (source.toNat, c)) ∨ s.rsu.table.length < 16 →
          ∀ x ∈ s.rsu.table, x.key ≠ (source.toNat, c) → x ∈ t.rsu.table) ∧
        (s.TableBounded → s.rsu.table.length = 16 → (∀ x ∈ s.rsu.table, x.key ≠ (source.toNat, c)) →
          ∃ v ∈ s.rsu.table, v ∉ t.rsu.table ∧ (∀ x ∈ s.rsu.table, x ≠ v → x ∈ t.rsu.table) ∧
            ∀ x ∈ s.rsu.table, v.expiry < x.expiry ∨ (v.expiry = x.expiry ∧
              (v.node < x.node ∨ (v.node = x.node ∧ chanNat v.chan ≤ chanNat x.chan)))) ∧
        t.rsu.working = min s.rsu.working capacity ∧
        (t.rsu.mismatch = true ↔ s.rsu.mismatch = true ∨ capacity ≠ s.config.capacity) ∧
        (∀ d, let yields := f.renew = 0 ∧ 3 ≤ cls.rank ∧ (s.claim d).state = .held ∧
            (s.claim d).vals.cls.rank < 3;
          (yields → (t.claim d).state ≠ .held ∧ s.Released t d .yielded ∧
            ((s.chan d).runState.energised = true →
            (t.chan d).runState = .coasting ∧ (t.chan d).headed = some .yielded)) ∧
          (¬ yields → (s.claim d).state = .held → (t.claim d).state = .held ∧ t.chan d = s.chan d)) ∧
        s.AsksKept t ∧ t.base = { s.taken (.claimFrame source f) with
          rsu := { s.rsu with table := t.rsu.table, working := t.rsu.working
                              mismatch := t.rsu.mismatch } }.base)) ∧
  (∀ (source : Addr) (f : ReleaseFields) (s : State), s.Hears source →
    let heard := s.driveActive = true ∧ s.config.segment ≠ 0 ∧ f.segment.toNat = s.config.segment
    let u := s.taken (.releaseFrame source f)
    let staggered := fun r : ClaimRecord =>
      if r.state = .waiting ∧ r.stagger = none then
        { r with stagger := some (s.now + ((4 - r.vals.cls.rank) * 100 + s.straps.address.toNat * 5)) }
      else r;
    exec (.releaseFrame source f) s = .next (State.settle
      (if heard then
        { u with rsu := { u.rsu with
            table := u.rsu.table.filter (fun e => !(e.node == source.toNat
              && chanNat e.chan == f.channel.toNat && e.token == f.token.toNat))
            claims := { c0 := staggered u.rsu.claims.c0, c1 := staggered u.rsu.claims.c1 } } }
      else u))) ∧
  (∀ (node : Addr) (c : Chan) (s : State), exec (.runTableExpiry node c) s = .next (State.settle
    { s with rsu := { s.rsu with
        table := s.rsu.table.filter (fun e => decide (e.key ≠ (node.toNat, c) ∨ s.now < e.expiry)) } }))

/-- A claim's window decides it: with fewer slots occupied than the working capacity it is HELD and the drive
starts where it may, the claim renewed where its values have changed; where its limit is active the run ends
DONE at once (as it does for a SEEK already on its target, the model's reading, log 16; that an opening at its
open limit ends DONE whatever the held level is the model's choice, log 47), where the held level bars an
opening STOPPED, and on an active safety edge as a PINCH, with the RELEASE queued; otherwise it is withdrawn and
WAITING for its retry. A WAITING claim is made anew, with the node's next token, at the retry, and at the
stagger's end when the table leaves a slot. -/
def Obligations.ClaimsAreDecided : Prop :=
  ∀ (c : Chan) (s : State), let r := s.claim c; let ch := s.chan c; let own := s.straps.address.toNat
    let otherHeld := (s.claim (chanOther c)).state = .held
    let counts := fun e : RunEntry => e.key ≠ (own, c) ∧
      ¬ (e.key = (own, chanOther c) ∧ otherHeld) ∧
      (e.settled = true ∨ e.arrival + 250 < r.completion.getD 0 ∨
        (let cls := (r.announcedVals.getD r.vals).cls;
          cls.rank < e.cls.rank ∨ (e.cls = cls ∧
            (e.node < own ∨ (e.node = own ∧ chanNat e.chan < chanNat c)))))
    let occupied := s.rsu.table.countP (fun e => decide (counts e)) + (if otherHeld then 1 else 0)
    let standing := s.rsu.table.countP (fun e => decide (e.key ≠ (own, c) ∧
      ¬ (e.key = (own, chanOther c) ∧ otherHeld))) + (if otherHeld then 1 else 0)
    let made := fun t : State =>
      t.rsu.tokenCounter = (s.rsu.tokenCounter + 1) % 256 ∧
      t.claim c = { r with
        state := .claiming, token := (s.rsu.tokenCounter + 1) % 256, announcedVals := some r.vals
        announced := false, heard := r.heard.erase ((s.rsu.tokenCounter + 1) % 256), completion := none
        window := none, stagger := none, retry := none } ∧
      t.claim (chanOther c) = s.claim (chanOther c) ∧ t.dch = s.dch ∧ t.req = s.req ∧
      t.base = s.base ∧
      (s.lin.conflict = false → s.lin.attempt ≠ some (.claim c) →
        t.ClaimQueued c ((s.rsu.tokenCounter + 1) % 256) r.vals 0);
    (s.present c = false ∨ s.dueAt r.window = false → exec (.claimWindowEnd c) s = .next s.settle) ∧
    (s.present c = true → s.dueAt r.window = true → r.state = .claiming →
      (occupied < s.rsu.working → ∀ j d, ch.runState = .waitSlot → ch.job = some j →
        movement ch.position j ch.part = some d →
        (d = .closing → (s.pin c).closedLimit = false ∧ (s.pin c).edge = false) →
        (d = .opening → (s.pin c).openLimit = false ∧ (s.held c).shut = false) →
        ∃ t, exec (.claimWindowEnd c) s = .next t ∧ (t.claim c).state = .held ∧
          (t.claim c).window = none ∧
          (let held := { r with state := .held, window := none };
            (r.current = r.announcedVals → t.claim c = held ∧ t.lin = s.lin) ∧
            (∀ v, r.current = some v → r.announcedVals ≠ some v →
              (s.isolated = false → t.claim c = { held with announcedVals := some v } ∧
                (s.lin.conflict = false → s.lin.attempt ≠ some (.claim c) →
                  t.ClaimQueued c r.token v 1)) ∧
              (s.isolated = true → t.lin = s.lin ∧
                t.claim c = { held with announcedVals := some v, owedRenewal := true }))) ∧
          (t.chan c).runState = (if (s.setting c).ramp = 0 then .driving else .starting) ∧
          (t.chan c).direction = d ∧ (t.chan c).job = some j ∧ (t.chan c).overrunMs = 0 ∧
          (t.chan c).slips = 0 ∧ (t.chan c).pinched = false ∧ (t.chan c).position = ch.position ∧
          t.chan (chanOther c) = s.chan (chanOther c) ∧ t.req = s.req ∧ t.base = s.base) ∧
      (occupied < s.rsu.working → s.isolated = false → ∀ j, ch.runState = .waitSlot → ch.job = some j →
        let d := movement ch.position j ch.part
        let ends := fun (h : Heading) (o : ReleaseOutcome) (failures : Nat) (more : Channel → Prop) =>
          ∃ t, exec (.claimWindowEnd c) s = .next t ∧ (t.chan c).lastEnd = h.cause ∧
            (t.chan c).failures = failures ∧ (t.chan c).runState.energised = false ∧
            (t.claim c).state ≠ .held ∧ more (t.chan c) ∧
            (s.lin.conflict = false → s.lin.queue.get (.claim c) = .reset →
              s.lin.queue.get (.release c) = .reset → t.ReleaseQueued c r.token o) ∧
            t.chan (chanOther c) = s.chan (chanOther c) ∧ s.AsksKept t ∧ t.base = s.base;
        (d = some .closing → (s.pin c).closedLimit = true →
          ends .done .done 0 (fun x => x.position = 0 ∧ x.known = true)) ∧
        (d = some .opening → (s.pin c).openLimit = true → ends .done .done 0 (fun _ => True)) ∧
        (d = none → ends .done .done 0 (fun _ => True)) ∧
        (d = some .opening → (s.pin c).openLimit = false → (s.held c).shut = true →
          ends .stopped .stopped ch.failures (fun _ => True)) ∧
        (d = some .closing → (s.pin c).closedLimit = false → (s.pin c).edge = true →
          ends (.fault .pinch) .fault (min 3 (ch.failures + 1))
            (fun x => x.fault = .pinch ∧ (x.runState = .blocked ∨ x.runState = .fault)))) ∧
      (s.rsu.working ≤ occupied → ∃ t, exec (.claimWindowEnd c) s = .next t ∧
        t.claim c = { r with
          state := .waiting, window := none, retry := some (s.now + (2000 + own * 20)) } ∧
        t.dch = s.dch ∧ t.req = s.req ∧ t.base = s.base ∧
        (s.lin.conflict = false → (s.lin.queue.get (.claim c)).frame = none →
          (s.lin.queue.get (.claim c)).successor = none →
          (s.lin.queue.get (.release c)).frame = none →
          t.ReleaseQueued c r.token .withdrawn))) ∧
    (s.present c = false ∨ s.dueAt r.stagger = false → exec (.staggerEnd c) s = .next s.settle) ∧
    (s.present c = true → s.dueAt r.stagger = true → ∃ t, exec (.staggerEnd c) s = .next t ∧
      (let room := r.state = .waiting ∧ standing < s.rsu.working;
        (room → made t) ∧
        (¬ room → t = State.settle
          { s with rsu := { s.rsu with claims := s.rsu.claims.set c { r with stagger := none } } }))) ∧
    (s.present c = false ∨ s.dueAt r.retry = false → exec (.claimRetryExpiry c) s = .next s.settle) ∧
    (s.present c = true → s.dueAt r.retry = true → ∃ t, exec (.claimRetryExpiry c) s = .next t ∧
      (r.state = .waiting → made t) ∧
      (r.state ≠ .waiting → t = State.settle
        { s with rsu := { s.rsu with claims := s.rsu.claims.set c { r with retry := none } } }))

/-! ### The node line -/

/-- What the line brings: quiet makes the assembly READY, takes the frame that passes its checks and opens a
round; bytes are assembled up to the length the fourth byte gives; a dominant line runs the stuck timer, whose
expiry isolates the node and takes its claims off the queue until the next quiet. A line state that so changes asks
for a STATE frame. Which frames pass the checks is said in FramesReadBack. At the quiet that ends isolated
operation each channel announces what happened: its owed RELEASE, its LOCAL run held under a new token, its owed
renewal, or the claim it waits for. At the entry each channel records what its frames would have told. The model's
choices in it: channel 0 takes the lower token (log 43), and frames taken wait in a list until their commands come
(log 10). -/
def Obligations.LineIsReceived : Prop :=
  ∀ s : State, let a : Assembly := s.lin.assembly
    let frame : List Instr := match checkFrame a.bytes with
      | none => []
      | some i => [if commandSource i = some s.straps.address then Instr.addressConflict else i];
    (s.phase = .held → exec .lineQuiet s = .next s.settle ∧
      ∀ b e, exec (.byteReceived b e) s = .next s.settle) ∧
    (s.phase ≠ .held → ∃ t, exec .lineQuiet s = .next t ∧
      (s.lin.stuck = false ∨ s.lin.giveUp = true ∨ s.lin.conflict = true →
        t.lin.queue = s.lin.queue ∧ t.rsu = s.rsu) ∧
      (s.lin.stuck = true → s.lin.giveUp = false → s.lin.conflict = false → s.ReportAsked t) ∧
      t.dch = s.dch ∧ t.req = s.req ∧
      t.base = { s with
        pins := { s.pins with lineDominant := false }
        lin := { s.lin with
          assembly := { state := .ready, bytes := [] }, round := true, stuck := false
          stuckTimer := none
          accepted := s.lin.accepted
            ++ (if a.state = AssemblyState.assembling ∧ s.lin.attempt = none then frame else []) } }.base) ∧
    (s.phase ≠ .held → s.lin.stuck = true → s.lin.giveUp = false → s.lin.conflict = false →
      s.config.segment ≠ 0 → s.straps.address.isStation = true →
      (∀ c, s.lin.queue.get (.claim c) = .reset ∧ s.lin.queue.get (.release c) = .reset) →
      ∃ t, exec .lineQuiet s = .next t ∧ t.isolated = false ∧ ∀ c, s.present c = true →
        let r := s.claim c
        let owed := { r with owedRelease := none, owedRenewal := false }
        let next := fun k : Nat => 1 ≤ k ∧ k ≤ 2 ∧
          (t.claim c).token = (s.rsu.tokenCounter + k) % 256 ∧ (c = .c0 → k = 1);
        (∀ k o, r.owedRelease = some (k, o) → t.ReleaseQueued c k o) ∧
        (r.owedRelease = none → t.lin.queue.get (.release c) = .reset) ∧
        (r.state = .localRun →
          t.claim c = { owed with
            state := .held, token := (t.claim c).token, announcedVals := some r.vals
            announced := true, heard := (r.hear (t.claim c).token).heard } ∧ (∃ k, next k) ∧ t.ClaimQueued c (t.claim c).token r.vals 1) ∧
        (r.state = .held → r.owedRenewal = true →
          t.claim c = { owed with announcedVals := some r.vals } ∧ t.ClaimQueued c r.token r.vals 1) ∧
        (r.state = .held → r.owedRenewal = false →
          t.claim c = { r with owedRelease := none } ∧ t.lin.queue.get (.claim c) = .reset) ∧
        (r.state = .none → (s.chan c).runState = .waitSlot → s.phase = .running →
          (t.claim c).state = .claiming ∧ (∃ k, next k) ∧ t.ClaimQueued c (t.claim c).token r.vals 0)) ∧
    (s.phase ≠ .held → ∀ b e, exec (.byteReceived b e) s = .next (State.settle
      { s with lin := { s.lin with
          round := false
          assembly := match a.state with
            | .waitQuiet => a
            | .discarding => a
            | .ready => if e then { state := .discarding, bytes := [] }
              else { state := .assembling, bytes := [b] }
            | .assembling =>
              if e = true ∨ (4 ≤ a.bytes.length ∧
                4 + (a.bytes.getD 3 0).toNat + 2 < a.bytes.length + 1) then
                { state := .discarding, bytes := [] }
              else { state := .assembling, bytes := a.bytes ++ [b] } } })) ∧
    (∀ dominant, exec (.lineLevelChange dominant) s = .next (State.settle
      { s with
        pins := { s.pins with lineDominant := dominant }
        lin := if s.phase = .held ∨ dominant = s.pins.lineDominant then s.lin
          else { s.lin with
            round := s.lin.round && !dominant
            stuckTimer := if dominant then some (s.now + 20) else none } })) ∧
    (s.dueAt s.lin.stuckTimer = false → exec .stuckTimerExpiry s = .next s.settle) ∧
    (s.dueAt s.lin.stuckTimer = true → ∃ t, exec .stuckTimerExpiry s = .next t ∧
      (s.isolated = false → s.driveActive = true → ∀ c,
        (t.claim c).state ≠ .claiming ∧ (t.claim c).state ≠ .waiting ∧
        (t.lin.queue.get (.claim c)).frame = none ∧ (t.lin.queue.get (.release c)).frame = none ∧
        s.OwesQueue t c) ∧
      (s.lineIsolated = false → s.ReportAsked t) ∧
      (s.lineIsolated = true → t.lin.queue = s.lin.queue) ∧
      s.AsksKept t ∧
      t.base = { s with lin := { s.lin with
        stuck := true, stuckTimer := none, round := false
        assembly := { state := .waitQuiet, bytes := [] } } }.base)

/-- What the node sends: in a round the head of the queue, URGENT before ROUTINE and older first, starts in its
own slot with its content; a collision counts and keeps it, but takes a CLAIM off the queue whose RELEASE waits,
both of them unless it is a renewal; the sixteenth gives it up, isolating the node for a CLAIM or RELEASE, whose
RELEASE or renewal is owed (a CLAIM is given up also where its RELEASE waits, the model's choice, log 48); a
completion takes it off the queue, clears GIVE_UP, opens the window of an own CLAIM, takes the entry of an own
RELEASE from the table and starts the stagger of the other channel's WAITING claim, and hands a deferred
publication over to the queue. A request that waits behind the frame enters its place, with attempt count 0 and
the present moment as its age, when the place empties, a RELEASE being cancelled there against an unsent CLAIM
of its token, or replacing a renewal; after a collision that leaves the frame it takes the frame's place at its
attempt count, age and the higher class, but behind a RELEASE it keeps waiting. A
line state that a give-up or a completion changes asks for a STATE frame. -/
def Obligations.LineIsSent : Prop :=
  (∀ (l : Lin) (p : Place) (f : TxFrame), l.head = some (p, f) → (l.queue.get p).frame = some f ∧
    ∀ q g, (l.queue.get q).frame = some g →
      (f.urgent = true ∧ g.urgent = false) ∨ (f.urgent = g.urgent ∧ f.age ≤ g.age)) ∧
  (∀ (slot : Nat) (s : State),
    let open' := s.phase ≠ .held ∧ s.lin.round = true ∧ s.lin.stuck = false ∧ s.lin.conflict = false ∧
      s.straps.address.isStation = true ∧ s.lin.attempt = none
    let at' := fun f : TxFrame =>
      if f.urgent then (s.straps.address.toNat + f.attempts) % 8
      else 8 + (s.straps.address.toNat + f.attempts) % 16;
    (¬ (open' ∧ ∃ p f, s.lin.head = some (p, f) ∧ at' f = slot) →
      exec (.attemptStart slot) s = .next s.settle) ∧
    (open' → ∀ p f, s.lin.head = some (p, f) → at' f = slot →
      ∃ t x, exec (.attemptStart slot) s = .next t ∧ t.lin.attempt = some p ∧
        t.lin.round = false ∧ t.lin.sending = contentBytes s.straps.address x ∧
        (t.lin.queue.get p).frame = some { f with content := some x } ∧
        (∀ q, q ≠ p → t.lin.queue.get q = s.lin.queue.get q) ∧
        (∀ y, f.content = some y → x = y ∧ t.wxi = s.wxi) ∧
        (f.content = none → p = .weather → x = .weather s.wxi.weatherFields ∧
          t.wxi = { s.wxi with
            seq := (s.wxi.seq + 1) % 256, band := gustBand s.config s.wxi.gust, pub := .sending }) ∧
        (f.content = none → p ≠ .weather → x = .report s.stateFields ∧ t.wxi = s.wxi) ∧
        t.rsu = s.rsu ∧ t.dch = s.dch ∧ t.req = s.req ∧
        t.base = { s with wxi := t.wxi, lin := { s.lin with round := false, sending := t.lin.sending }
          }.base)) ∧
  (∀ s : State,
    (s.lin.attempt = none → exec .collision s = .next s.settle ∧
      exec .attemptComplete s = .next s.settle) ∧
    (∀ p f, s.lin.attempt = some p → (s.lin.queue.get p).frame = some f →
      (s.lin.queue.get p).successor = none →
      (f.attempts + 1 < 16 → (∀ c, p = .claim c → (s.lin.queue.get (.release c)).frame = none ∨
          ∃ g, (s.lin.queue.get (.release c)).frame = some g ∧
            releaseToken g.content ≠ (claimTag f.content).map Prod.fst) →
        exec .collision s = .next (State.settle { s with lin := { s.lin with
          queue := s.lin.queue.put p { frame := some { f with attempts := f.attempts + 1 }
                                       successor := none }
          attempt := none, sending := [] } })) ∧
      (f.attempts + 1 < 16 → ∀ c, p = .claim c → ∀ k renewing, claimTag f.content = some (k, renewing) →
        ∀ g, (s.lin.queue.get (.release c)).frame = some g → releaseToken g.content = some k →
        (s.lin.queue.get (.release c)).successor = none →
        let empty : TxSlot := { frame := none, successor := none }
        let alone := s.lin.queue.put (.claim c) empty;
        exec .collision s = .next (State.settle { s with lin := { s.lin with
          queue := if renewing then alone else alone.put (.release c) empty
          attempt := none, sending := [] } })) ∧
      (16 ≤ f.attempts + 1 → p = .report ∨ p = .order →
        exec .collision s = .next (State.settle { s with lin := { s.lin with
          queue := s.lin.queue.put p { frame := none, successor := none }
          attempt := none, sending := [] } })) ∧
      (16 ≤ f.attempts + 1 → ∀ c, p = .claim c ∨ p = .release c → ∃ t, exec .collision s = .next t ∧
        t.lin.giveUp = true ∧ t.isolated = true ∧ s.AsksKept t ∧
        (s.isolated = false → s.driveActive = true → s.OwesQueue t c) ∧
        (s.lineIsolated = false → s.ReportAsked t) ∧
        t.base = { s with lin := { s.lin with giveUp := true, sending := [] } }.base) ∧
      (p = .report ∨ p = .order → s.lin.giveUp = false →
        exec .attemptComplete s = .next (State.settle { s with lin := { s.lin with
          queue := s.lin.queue.put p { frame := none, successor := none }
          attempt := none, sending := [], assembly := { state := .ready, bytes := [] } } })) ∧
      (∃ t, exec .attemptComplete s = .next t ∧ t.lin.giveUp = false ∧ t.lin.attempt = none ∧
        t.lin.sending = [] ∧ t.lin.assembly.state = .ready ∧
        (s.lin.giveUp = true → s.lin.stuck = false → s.lin.conflict = false →
          (p ≠ .report → s.ReportAsked t) ∧
          (p = .report → t.loaded = true → ∃ age, t.lin.queue.report = { successor := none, frame := some (
            { urgent := false, attempts := 0, age := age, content := none } : TxFrame) }))) ∧
      (p = .weather → s.wxi.deferred = none → s.lin.giveUp = false →
        exec .attemptComplete s = .next (State.settle { s with
          wxi := { s.wxi with pub := .idle, cause := none }
          lin := { s.lin with
            queue := s.lin.queue.put p { frame := none, successor := none }
            attempt := none, sending := [], assembly := { state := .ready, bytes := [] } } })) ∧
      (p = .weather → s.wxi.deferred = none → 16 ≤ f.attempts + 1 →
        exec .collision s = .next (State.settle { s with
          wxi := { s.wxi with pub := .idle, cause := none }
          lin := { s.lin with
            queue := s.lin.queue.put p { frame := none, successor := none }
            attempt := none, sending := [] } })) ∧
      (p = .weather → s.publishes = true → s.lin.conflict = false →
        ∀ x, s.wxi.deferred = some x → ∃ t, exec .attemptComplete s = .next t ∧
          t.wxi = { s.wxi with pub := .queued, cause := some x.2, deferred := none } ∧
          t.lin.queue.weather = { successor := none, frame := some (
            { urgent := x.1, attempts := 0, age := s.lin.ages, content := none } : TxFrame) }) ∧
      (∀ c g, p = .claim c → f.content = some (.claim g) → s.driveActive = true →
        s.config.segment ≠ 0 → (s.claim c).state = .claiming → (s.claim c).token = g.token.toNat →
        g.renew = 0 → g.channel.toNat = chanNat c → g.cls.toNat ≤ 4 → s.lin.giveUp = false →
        ∃ t, exec .attemptComplete s = .next t ∧
          t.claim c = { s.claim c with
            announced := true, heard := ((s.claim c).hear g.token.toNat).heard
            completion := some s.now, window := some (s.now + 250) } ∧
          (∃ e ∈ t.rsu.table, e.key = (s.straps.address.toNat, c) ∧ e.token = g.token.toNat ∧
            e.arrival = s.now) ∧
          (t.lin.queue.get (.claim c)).frame = none ∧ t.lin.sending = [] ∧
          t.lin.assembly.state = .ready) ∧
      (∀ c g, p = .release c → f.content = some (.release g) → s.driveActive = true →
        s.config.segment ≠ 0 → s.lin.giveUp = false →
        let other := s.claim (chanOther c)
        let due := s.now + ((4 - other.vals.cls.rank) * 100 + s.straps.address.toNat * 5);
        exec .attemptComplete s = .next (State.settle { s with
          rsu := { s.rsu with
            table := s.rsu.table.filter (fun e => !(e.node == s.straps.address.toNat
              && chanNat e.chan == g.channel.toNat && e.token == g.token.toNat))
            claims := s.rsu.claims.set (chanOther c)
              (if other.state = .waiting ∧ other.stagger = none then { other with stagger := some due }
              else other) }
          lin := { s.lin with
            queue := s.lin.queue.put p { frame := none, successor := none }
            attempt := none, sending := [], assembly := { state := .ready, bytes := [] } } })))) ∧
  (∀ (s : State) (p : Place) (f : TxFrame) (r : TxRequest), s.lin.attempt = some p →
    (s.lin.queue.get p).frame = some f → (s.lin.queue.get p).successor = some r →
    let empty : TxSlot := { frame := none, successor := none }
    let enters : TxSlot := { successor := none, frame := some (
      { urgent := r.urgent, attempts := 0, age := s.lin.ages, content := r.content } : TxFrame) }
    let replaced : TxSlot := { successor := none, frame := some (
      { f with attempts := f.attempts + 1, urgent := f.urgent || r.urgent, content := r.content } : TxFrame) }
    let collides := fun (q : TxQueue) (ages : Nat) => exec .collision s = .next (State.settle
      { s with lin := { s.lin with queue := q, ages := ages, attempt := none, sending := [] } })
    let completes := fun q : TxQueue => ∃ t, exec .attemptComplete s = .next t ∧ t.lin.attempt = none ∧
      t.lin.queue = q;
    (f.attempts + 1 < 16 →
      (p = .weather ∨ p = .report ∨ p = .order → collides (s.lin.queue.put p replaced) s.lin.ages) ∧
      (∀ c, p = .release c → collides (s.lin.queue.put p
        { frame := some { f with attempts := f.attempts + 1 }, successor := some r }) s.lin.ages) ∧
      (∀ c, p = .claim c → let g := (s.lin.queue.get (.release c)).frame
        ((∀ k, (claimTag f.content).map Prod.fst = some k →
            g.bind (fun g => releaseToken g.content) ≠ some k) →
          collides (s.lin.queue.put p replaced) s.lin.ages) ∧
        (∀ k, claimTag f.content = some (k, true) →
          g.bind (fun g => releaseToken g.content) = some k →
          collides (s.lin.queue.put p enters) (s.lin.ages + 1)) ∧
        (∀ k, claimTag f.content = some (k, false) →
          g.bind (fun g => releaseToken g.content) = some k →
          (s.lin.queue.get (.release c)).successor = none →
          collides ((s.lin.queue.put p enters).put (.release c) empty) (s.lin.ages + 1)))) ∧
    (16 ≤ f.attempts + 1 →
      (p = .report ∨ p = .order → collides (s.lin.queue.put p enters) (s.lin.ages + 1)) ∧
      (∀ c, p = .claim c ∨ p = .release c → s.isolated = false → s.driveActive = true →
        ∃ t, exec .collision s = .next t ∧ t.lin.giveUp = true ∧
          ∀ d, t.lin.queue.get (.claim d) = empty ∧ t.lin.queue.get (.release d) = empty)) ∧
    (s.lin.giveUp = false →
      (p = .report ∨ p = .order → completes (s.lin.queue.put p enters)) ∧
      (p = .weather → s.wxi.deferred = none → completes (s.lin.queue.put p enters)) ∧
      (∀ c, p = .claim c → (s.claim c).state ≠ .held →
        ∃ t, exec .attemptComplete s = .next t ∧ t.lin.queue.get (.claim c) = enters) ∧
      (∀ c, p = .release c → ∀ k, releaseToken r.content = some k →
        let cl := s.lin.queue.get (.claim c)
        let tag := cl.frame.bind (fun g => claimTag g.content);
        cl.successor = none →
        (tag.map Prod.fst ≠ some k → completes (s.lin.queue.put p enters)) ∧
        (tag = some (k, true) → completes ((s.lin.queue.put (.claim c) empty).put p enters)) ∧
        (tag = some (k, false) → completes ((s.lin.queue.put (.claim c) empty).put p empty)))))

/-- An address conflict, or a frame command of any kind with the node's own address, silences the node: the
conflict flag is set and the queue is emptied. Before that each channel records at the entry into isolated operation
what its frames would have told, which no frame will tell any more (that it does so before the queue is emptied is the
model's choice, log 52). A node without a valid address never meets one. A STATE frame reaches no block. -/
def Obligations.ConflictsSilenceTheNode : Prop :=
  ∀ s : State,
    let silenced := fun (i : Instr) =>
      ∃ t, exec i s = .next t ∧ t.lin.conflict = true ∧ t.lin.queue = .reset ∧ t.lin.attempt = none ∧
        t.lin.sending = [] ∧ t.wxi.pub = .idle ∧ t.lineIsolated = true ∧ s.AsksKept t ∧
        (s.isolated = false → s.driveActive = true → ∀ c, s.OwesQueue t c) ∧
        t.base = { s.taken i with
          wxi := t.wxi, lin := { s.lin with
            accepted := s.lin.accepted.erase i, conflict := true, sending := [] } }.base
    let meets := s.phase ≠ .held ∧ s.straps.address.isStation = true ∧ s.lin.conflict = false;
    (meets → silenced .addressConflict) ∧
    (¬ meets → exec .addressConflict s = .next (s.taken .addressConflict).settle) ∧
    (meets → ∀ i, commandSource i = some s.straps.address → silenced i) ∧
    (∀ source p, s.Hears source → exec (.stateFrame source p) s =
      .next (s.taken (.stateFrame source p)).settle)

/-! ### Reporting and commissioning -/

/-- A STATE frame carries the node's role, picture status, flags, commit outcome and channel records, its named
values by their codes, which classes, outcomes, causes and rain states have for the other frames; the status
output follows the selected source, by its polarity. The status interval, when it has run out, asks for a STATE
frame and restarts; and with the commissioning strap fitted, pieces for this node's address enter the staging
copy, a commit whose CRC agrees with the frame's and the block's own starts the store write, any other is
REFUSED, and the write's end is OK when the store reads back as staged. That CONFIG frames are taken from the
latch of the straps on, before the load against the staging copy and commit state of reset, is the model's
choice (log 49). -/
def Obligations.ReportingAndCommissioning : Prop :=
  (∀ (i : Instr) (s t : State), exec i s = .next t → s.ReportDue t →
    ¬ (i = .attemptComplete ∧ s.lin.attempt = some .report) → s.ReportAsked t) ∧
  (∀ s : State,
    let asked := fun (t : State) => s.ReportAsked t ∧
      (∀ p, p ≠ .report → t.lin.queue.get p = s.lin.queue.get p) ∧
      t.dch = s.dch ∧ t.req = s.req ∧ t.rsu = s.rsu
    let runState := fun c : Chan => match (s.chan c).runState with
      | .idle => 0 | .waitSlot => 1 | .starting => 2 | .driving => 3 | .coasting => 4 | .dwell => 5
      | .backoff => 6 | .blocked => 7 | .supplyWait => 8 | .fault => 9
    let held := fun c : Chan => match s.held c with
      | .calm => 0 | .watch => 1 | .close => 2 | .severe => 3
    let fault := fun c : Chan => match (s.chan c).fault with
      | .none => 0 | .stallSilent => 1 | .stallCurrent => 2 | .pinch => 3 | .travel => 4 | .overrun => 5
      | .cal => 6
    let lastEnd := fun c : Chan => match (s.chan c).lastEnd with
      | .done => 0 | .stopped => 1 | .yielded => 2 | .positionLost => 3 | .supply => 4 | .fault => 5
    let picture := match s.src.picture.status with
      | .starting => 0 | .valid => 1 | .degraded => 2 | .partly => 3 | .lost => 4
    let outcome := match s.rep.outcome with
      | .none => 0 | .ok => 1 | .refused => 2
    let record := fun c : Chan => if s.present c then
        [if (s.chan c).known then (200 * (s.chan c).position + (s.setting c).travel)
            / (2 * (s.setting c).travel) else 255,
          runState c, held c, 1 + (if (s.thr.get c).latch then 2 else 0), fault c, lastEnd c,
          (s.chan c).failures]
      else [255, 0, 0, 0, 0, 0, 0]
    let shut := fun c : Chan => s.held c = .close ∨ s.held c = .severe
    let closed := fun c : Chan =>
      (s.chan c).known = true ∧ (s.chan c).position = 0 ∧ (s.pin c).closedLimit = true
    let condition : OutputSource → Prop := fun x => match x with
      | .heldClose => ∃ c, s.present c = true ∧ shut c
      | .notValid => s.src.picture.status ≠ .valid
      | .fault => ∃ c, s.present c = true ∧ (s.chan c).runState = .fault
      | .allClosed => (∃ c, s.present c = true) ∧ ∀ c, s.present c = true → closed c
      | .line => s.lin.giveUp = true ∨ s.lin.stuck = true ∨ s.lin.conflict = true ∨
          s.straps.address.isStation = false
      | .localRain => s.wxi.rain = .rain
      | .low => False
      | .high => True;
    (s.PositionsInTravel → s.CountsBounded →
      (stateBytes s.stateFields).map BitVec.toNat =
        [if s.straps.roleCode = 1 then 1 else if s.straps.roleCode = 2 then 2 else 0,
          picture,
          (if s.lin.giveUp ∨ s.lin.stuck ∨ s.lin.conflict then 1 else 0) + (if s.lin.conflict then 2 else 0)
            + (if s.pins.keyLocal then 4 else 0) + (if s.configFault then 8 else 0)
            + (if s.rsu.mismatch then 16 else 0) + (if s.straps.commissioning then 32 else 0),
          outcome] ++ record .c0 ++ record .c1) ∧
    ([Machine.Class.service, .user, .building, .weather, .storm].map Machine.Class.rank = [0, 1, 2, 3, 4] ∧
      [ReleaseOutcome.done, .stopped, .fault, .supply, .yielded, .withdrawn].map ReleaseOutcome.code
        = [0, 1, 2, 3, 4, 5] ∧
      [Cause.periodic, .rainChange, .gustLevel].map Cause.code = [0, 1, 2] ∧
      [Rain.dry, .wet, .rain].map Rain.rank = [0, 1, 2]) ∧
    (s.loaded = false → s.outputLevel = true) ∧
    (s.loaded = true → (s.config.outSource = .low → s.outputLevel = false) ∧
      (s.config.outSource = .high → s.outputLevel = true) ∧
      (s.config.outSource ≠ .low → s.config.outSource ≠ .high →
        (s.outputLevel = true ↔ (condition s.config.outSource ↔ s.config.outPolarity = .activeHigh)))) ∧
    (s.dueAt s.rep.interval = false → exec .statusIntervalExpiry s = .next s.settle) ∧
    (s.dueAt s.rep.interval = true → ∃ t, exec .statusIntervalExpiry s = .next t ∧ asked t ∧
      t.base = { s with rep := { s.rep with
        interval := some (s.now + s.config.statusInterval * 1000) } }.base) ∧
    (∀ (source : Addr) (target offset : Byte) (data : List Byte), s.Hears source →
      data.length = 16 → let u := s.taken (.configData source target offset data)
      let takes := s.straps.commissioning = true ∧ target.toNat = s.straps.address.toNat ∧
        s.commitState = .idle ∧ offset.toNat % 16 = 0 ∧ offset.toNat ≤ 80;
      exec (.configData source target offset data) s = .next (State.settle
        { u with staging := if takes then
            s.staging.take offset.toNat ++ data ++ s.staging.drop (offset.toNat + 16)
          else s.staging })) ∧
    (∀ (source : Addr) (target : Byte) (crc : Half), s.Hears source →
      let u := s.taken (.configCommit source target crc)
      let takes := s.straps.commissioning = true ∧ target.toNat = s.straps.address.toNat ∧
        s.commitState = .idle
      let passes := crc16 (s.staging.take 94) = crc ∧ crc.toNat = halfAt s.staging 94;
      (¬ takes → exec (.configCommit source target crc) s = .next u.settle) ∧
      (takes → passes → exec (.configCommit source target crc) s =
        .next (State.settle { u with commitState := .writing })) ∧
      (takes → ¬ passes → ∃ t, exec (.configCommit source target crc) s = .next t ∧ asked t ∧
        t.base = { u with rep := { s.rep with outcome := .refused } }.base)) ∧
    (∀ readback : List Byte,
      (s.commitState = .idle → exec (.storeWriteEnd readback) s = .next s.settle) ∧
      (s.commitState = .writing → ∃ t, exec (.storeWriteEnd readback) s = .next t ∧ asked t ∧
        t.base = { s with
          store := readback, storeTorn := false, commitState := .idle
          rep := { s.rep with outcome := if readback = s.staging then .ok else .refused } }.base)))
end

