-- ==== Sys2Proof/Laws/State.lean ====
section
/-! SUPPORT. The small lemmas of the state updates: what each setter leaves of each field, and what it reads
back, so that later proofs unfold no record update. -/

namespace Sys2Proof.Machine

open Sys2Proof

/-! ### Pairs -/

@[simp] theorem Pair.get_set_same {α : Type} (p : Pair α) (c : Chan) (x : α) : (p.set c x).get c = x := by
  cases c <;> rfl

@[simp] theorem Pair.get_set_other {α : Type} (p : Pair α) (c : Chan) (x : α) :
    (p.set c x).get (chanOther c) = p.get (chanOther c) := by
  cases c <;> rfl

theorem Pair.get_set {α : Type} (p : Pair α) (c d : Chan) (x : α) :
    (p.set c x).get d = if d = c then x else p.get d := by
  cases c <;> cases d <;> rfl

theorem Pair.ext_get {α : Type} {p q : Pair α} (h0 : p.get .c0 = q.get .c0) (h1 : p.get .c1 = q.get .c1) :
    p = q := by
  cases p; cases q; simp_all [Pair.get]

@[simp] theorem Pair.set_get_self {α : Type} (p : Pair α) (c : Chan) : p.set c (p.get c) = p := by
  cases c <;> rfl

/-! ### Timers -/

@[simp] theorem State.dueAt_none (s : State) : s.dueAt none = false := rfl
@[simp] theorem State.dueAt_some (s : State) (m : Nat) : s.dueAt (some m) = decide (m ≤ s.now) := rfl
/-- An expiry acts only on a timer that runs, and whose moment has come (log 2). -/
theorem State.dueAt_iff (s : State) (t : Option Nat) :
    s.dueAt t = true ↔ ∃ m, t = some m ∧ m ≤ s.now := by
  cases t <;> simp

/-! ### `setChan` -/

@[simp] theorem State.setChan_pending (s : State) (c : Chan) (x : Channel) : (s.setChan c x).pending = s.pending := rfl
@[simp] theorem State.setChan_now (s : State) (c : Chan) (x : Channel) : (s.setChan c x).now = s.now := rfl
@[simp] theorem State.setChan_freeCount (s : State) (c : Chan) (x : Channel) : (s.setChan c x).freeCount = s.freeCount := rfl
@[simp] theorem State.setChan_phase (s : State) (c : Chan) (x : Channel) : (s.setChan c x).phase = s.phase := rfl
@[simp] theorem State.setChan_straps (s : State) (c : Chan) (x : Channel) : (s.setChan c x).straps = s.straps := rfl
@[simp] theorem State.setChan_config (s : State) (c : Chan) (x : Channel) : (s.setChan c x).config = s.config := rfl
@[simp] theorem State.setChan_configFault (s : State) (c : Chan) (x : Channel) : (s.setChan c x).configFault = s.configFault := rfl
@[simp] theorem State.setChan_blockRead (s : State) (c : Chan) (x : Channel) : (s.setChan c x).blockRead = s.blockRead := rfl
@[simp] theorem State.setChan_calLeft (s : State) (c : Chan) (x : Channel) : (s.setChan c x).calLeft = s.calLeft := rfl
@[simp] theorem State.setChan_calAt (s : State) (c : Chan) (x : Channel) : (s.setChan c x).calAt = s.calAt := rfl
@[simp] theorem State.setChan_listenInAt (s : State) (c : Chan) (x : Channel) : (s.setChan c x).listenInAt = s.listenInAt := rfl
@[simp] theorem State.setChan_store (s : State) (c : Chan) (x : Channel) : (s.setChan c x).store = s.store := rfl
@[simp] theorem State.setChan_storeTorn (s : State) (c : Chan) (x : Channel) : (s.setChan c x).storeTorn = s.storeTorn := rfl
@[simp] theorem State.setChan_staging (s : State) (c : Chan) (x : Channel) : (s.setChan c x).staging = s.staging := rfl
@[simp] theorem State.setChan_commitState (s : State) (c : Chan) (x : Channel) : (s.setChan c x).commitState = s.commitState := rfl
@[simp] theorem State.setChan_pins (s : State) (c : Chan) (x : Channel) : (s.setChan c x).pins = s.pins := rfl
@[simp] theorem State.setChan_wxi (s : State) (c : Chan) (x : Channel) : (s.setChan c x).wxi = s.wxi := rfl
@[simp] theorem State.setChan_src (s : State) (c : Chan) (x : Channel) : (s.setChan c x).src = s.src := rfl
@[simp] theorem State.setChan_thr (s : State) (c : Chan) (x : Channel) : (s.setChan c x).thr = s.thr := rfl
@[simp] theorem State.setChan_req (s : State) (c : Chan) (x : Channel) : (s.setChan c x).req = s.req := rfl
@[simp] theorem State.setChan_supply (s : State) (c : Chan) (x : Channel) : (s.setChan c x).supply = s.supply := rfl
@[simp] theorem State.setChan_rsu (s : State) (c : Chan) (x : Channel) : (s.setChan c x).rsu = s.rsu := rfl
@[simp] theorem State.setChan_lin (s : State) (c : Chan) (x : Channel) : (s.setChan c x).lin = s.lin := rfl
@[simp] theorem State.setChan_rep (s : State) (c : Chan) (x : Channel) : (s.setChan c x).rep = s.rep := rfl

/-! ### `setClaim` -/

@[simp] theorem State.setClaim_pending (s : State) (c : Chan) (x : ClaimRecord) : (s.setClaim c x).pending = s.pending := rfl
@[simp] theorem State.setClaim_now (s : State) (c : Chan) (x : ClaimRecord) : (s.setClaim c x).now = s.now := rfl
@[simp] theorem State.setClaim_freeCount (s : State) (c : Chan) (x : ClaimRecord) : (s.setClaim c x).freeCount = s.freeCount := rfl
@[simp] theorem State.setClaim_phase (s : State) (c : Chan) (x : ClaimRecord) : (s.setClaim c x).phase = s.phase := rfl
@[simp] theorem State.setClaim_straps (s : State) (c : Chan) (x : ClaimRecord) : (s.setClaim c x).straps = s.straps := rfl
@[simp] theorem State.setClaim_config (s : State) (c : Chan) (x : ClaimRecord) : (s.setClaim c x).config = s.config := rfl
@[simp] theorem State.setClaim_configFault (s : State) (c : Chan) (x : ClaimRecord) : (s.setClaim c x).configFault = s.configFault := rfl
@[simp] theorem State.setClaim_blockRead (s : State) (c : Chan) (x : ClaimRecord) : (s.setClaim c x).blockRead = s.blockRead := rfl
@[simp] theorem State.setClaim_calLeft (s : State) (c : Chan) (x : ClaimRecord) : (s.setClaim c x).calLeft = s.calLeft := rfl
@[simp] theorem State.setClaim_calAt (s : State) (c : Chan) (x : ClaimRecord) : (s.setClaim c x).calAt = s.calAt := rfl
@[simp] theorem State.setClaim_listenInAt (s : State) (c : Chan) (x : ClaimRecord) : (s.setClaim c x).listenInAt = s.listenInAt := rfl
@[simp] theorem State.setClaim_store (s : State) (c : Chan) (x : ClaimRecord) : (s.setClaim c x).store = s.store := rfl
@[simp] theorem State.setClaim_storeTorn (s : State) (c : Chan) (x : ClaimRecord) : (s.setClaim c x).storeTorn = s.storeTorn := rfl
@[simp] theorem State.setClaim_staging (s : State) (c : Chan) (x : ClaimRecord) : (s.setClaim c x).staging = s.staging := rfl
@[simp] theorem State.setClaim_commitState (s : State) (c : Chan) (x : ClaimRecord) : (s.setClaim c x).commitState = s.commitState := rfl
@[simp] theorem State.setClaim_pins (s : State) (c : Chan) (x : ClaimRecord) : (s.setClaim c x).pins = s.pins := rfl
@[simp] theorem State.setClaim_wxi (s : State) (c : Chan) (x : ClaimRecord) : (s.setClaim c x).wxi = s.wxi := rfl
@[simp] theorem State.setClaim_src (s : State) (c : Chan) (x : ClaimRecord) : (s.setClaim c x).src = s.src := rfl
@[simp] theorem State.setClaim_thr (s : State) (c : Chan) (x : ClaimRecord) : (s.setClaim c x).thr = s.thr := rfl
@[simp] theorem State.setClaim_req (s : State) (c : Chan) (x : ClaimRecord) : (s.setClaim c x).req = s.req := rfl
@[simp] theorem State.setClaim_dch (s : State) (c : Chan) (x : ClaimRecord) : (s.setClaim c x).dch = s.dch := rfl
@[simp] theorem State.setClaim_supply (s : State) (c : Chan) (x : ClaimRecord) : (s.setClaim c x).supply = s.supply := rfl
@[simp] theorem State.setClaim_lin (s : State) (c : Chan) (x : ClaimRecord) : (s.setClaim c x).lin = s.lin := rfl
@[simp] theorem State.setClaim_rep (s : State) (c : Chan) (x : ClaimRecord) : (s.setClaim c x).rep = s.rep := rfl

/-! ### `setTable` -/

@[simp] theorem State.setTable_pending (s : State) (c : Chan) (x : ReqTable) : (s.setTable c x).pending = s.pending := rfl
@[simp] theorem State.setTable_now (s : State) (c : Chan) (x : ReqTable) : (s.setTable c x).now = s.now := rfl
@[simp] theorem State.setTable_freeCount (s : State) (c : Chan) (x : ReqTable) : (s.setTable c x).freeCount = s.freeCount := rfl
@[simp] theorem State.setTable_phase (s : State) (c : Chan) (x : ReqTable) : (s.setTable c x).phase = s.phase := rfl
@[simp] theorem State.setTable_straps (s : State) (c : Chan) (x : ReqTable) : (s.setTable c x).straps = s.straps := rfl
@[simp] theorem State.setTable_config (s : State) (c : Chan) (x : ReqTable) : (s.setTable c x).config = s.config := rfl
@[simp] theorem State.setTable_configFault (s : State) (c : Chan) (x : ReqTable) : (s.setTable c x).configFault = s.configFault := rfl
@[simp] theorem State.setTable_blockRead (s : State) (c : Chan) (x : ReqTable) : (s.setTable c x).blockRead = s.blockRead := rfl
@[simp] theorem State.setTable_calLeft (s : State) (c : Chan) (x : ReqTable) : (s.setTable c x).calLeft = s.calLeft := rfl
@[simp] theorem State.setTable_calAt (s : State) (c : Chan) (x : ReqTable) : (s.setTable c x).calAt = s.calAt := rfl
@[simp] theorem State.setTable_listenInAt (s : State) (c : Chan) (x : ReqTable) : (s.setTable c x).listenInAt = s.listenInAt := rfl
@[simp] theorem State.setTable_store (s : State) (c : Chan) (x : ReqTable) : (s.setTable c x).store = s.store := rfl
@[simp] theorem State.setTable_storeTorn (s : State) (c : Chan) (x : ReqTable) : (s.setTable c x).storeTorn = s.storeTorn := rfl
@[simp] theorem State.setTable_staging (s : State) (c : Chan) (x : ReqTable) : (s.setTable c x).staging = s.staging := rfl
@[simp] theorem State.setTable_commitState (s : State) (c : Chan) (x : ReqTable) : (s.setTable c x).commitState = s.commitState := rfl
@[simp] theorem State.setTable_pins (s : State) (c : Chan) (x : ReqTable) : (s.setTable c x).pins = s.pins := rfl
@[simp] theorem State.setTable_wxi (s : State) (c : Chan) (x : ReqTable) : (s.setTable c x).wxi = s.wxi := rfl
@[simp] theorem State.setTable_src (s : State) (c : Chan) (x : ReqTable) : (s.setTable c x).src = s.src := rfl
@[simp] theorem State.setTable_thr (s : State) (c : Chan) (x : ReqTable) : (s.setTable c x).thr = s.thr := rfl
@[simp] theorem State.setTable_dch (s : State) (c : Chan) (x : ReqTable) : (s.setTable c x).dch = s.dch := rfl
@[simp] theorem State.setTable_supply (s : State) (c : Chan) (x : ReqTable) : (s.setTable c x).supply = s.supply := rfl
@[simp] theorem State.setTable_rsu (s : State) (c : Chan) (x : ReqTable) : (s.setTable c x).rsu = s.rsu := rfl
@[simp] theorem State.setTable_lin (s : State) (c : Chan) (x : ReqTable) : (s.setTable c x).lin = s.lin := rfl
@[simp] theorem State.setTable_rep (s : State) (c : Chan) (x : ReqTable) : (s.setTable c x).rep = s.rep := rfl

/-! ### `setLin` -/

@[simp] theorem State.setLin_pending (s : State) (x : Lin) : (s.setLin x).pending = s.pending := rfl
@[simp] theorem State.setLin_now (s : State) (x : Lin) : (s.setLin x).now = s.now := rfl
@[simp] theorem State.setLin_freeCount (s : State) (x : Lin) : (s.setLin x).freeCount = s.freeCount := rfl
@[simp] theorem State.setLin_phase (s : State) (x : Lin) : (s.setLin x).phase = s.phase := rfl
@[simp] theorem State.setLin_straps (s : State) (x : Lin) : (s.setLin x).straps = s.straps := rfl
@[simp] theorem State.setLin_config (s : State) (x : Lin) : (s.setLin x).config = s.config := rfl
@[simp] theorem State.setLin_configFault (s : State) (x : Lin) : (s.setLin x).configFault = s.configFault := rfl
@[simp] theorem State.setLin_blockRead (s : State) (x : Lin) : (s.setLin x).blockRead = s.blockRead := rfl
@[simp] theorem State.setLin_calLeft (s : State) (x : Lin) : (s.setLin x).calLeft = s.calLeft := rfl
@[simp] theorem State.setLin_calAt (s : State) (x : Lin) : (s.setLin x).calAt = s.calAt := rfl
@[simp] theorem State.setLin_listenInAt (s : State) (x : Lin) : (s.setLin x).listenInAt = s.listenInAt := rfl
@[simp] theorem State.setLin_store (s : State) (x : Lin) : (s.setLin x).store = s.store := rfl
@[simp] theorem State.setLin_storeTorn (s : State) (x : Lin) : (s.setLin x).storeTorn = s.storeTorn := rfl
@[simp] theorem State.setLin_staging (s : State) (x : Lin) : (s.setLin x).staging = s.staging := rfl
@[simp] theorem State.setLin_commitState (s : State) (x : Lin) : (s.setLin x).commitState = s.commitState := rfl
@[simp] theorem State.setLin_pins (s : State) (x : Lin) : (s.setLin x).pins = s.pins := rfl
@[simp] theorem State.setLin_wxi (s : State) (x : Lin) : (s.setLin x).wxi = s.wxi := rfl
@[simp] theorem State.setLin_src (s : State) (x : Lin) : (s.setLin x).src = s.src := rfl
@[simp] theorem State.setLin_thr (s : State) (x : Lin) : (s.setLin x).thr = s.thr := rfl
@[simp] theorem State.setLin_req (s : State) (x : Lin) : (s.setLin x).req = s.req := rfl
@[simp] theorem State.setLin_dch (s : State) (x : Lin) : (s.setLin x).dch = s.dch := rfl
@[simp] theorem State.setLin_supply (s : State) (x : Lin) : (s.setLin x).supply = s.supply := rfl
@[simp] theorem State.setLin_rsu (s : State) (x : Lin) : (s.setLin x).rsu = s.rsu := rfl
@[simp] theorem State.setLin_rep (s : State) (x : Lin) : (s.setLin x).rep = s.rep := rfl

/-! ### `setWxi` -/

@[simp] theorem State.setWxi_pending (s : State) (x : Wxi) : (s.setWxi x).pending = s.pending := rfl
@[simp] theorem State.setWxi_now (s : State) (x : Wxi) : (s.setWxi x).now = s.now := rfl
@[simp] theorem State.setWxi_freeCount (s : State) (x : Wxi) : (s.setWxi x).freeCount = s.freeCount := rfl
@[simp] theorem State.setWxi_phase (s : State) (x : Wxi) : (s.setWxi x).phase = s.phase := rfl
@[simp] theorem State.setWxi_straps (s : State) (x : Wxi) : (s.setWxi x).straps = s.straps := rfl
@[simp] theorem State.setWxi_config (s : State) (x : Wxi) : (s.setWxi x).config = s.config := rfl
@[simp] theorem State.setWxi_configFault (s : State) (x : Wxi) : (s.setWxi x).configFault = s.configFault := rfl
@[simp] theorem State.setWxi_blockRead (s : State) (x : Wxi) : (s.setWxi x).blockRead = s.blockRead := rfl
@[simp] theorem State.setWxi_calLeft (s : State) (x : Wxi) : (s.setWxi x).calLeft = s.calLeft := rfl
@[simp] theorem State.setWxi_calAt (s : State) (x : Wxi) : (s.setWxi x).calAt = s.calAt := rfl
@[simp] theorem State.setWxi_listenInAt (s : State) (x : Wxi) : (s.setWxi x).listenInAt = s.listenInAt := rfl
@[simp] theorem State.setWxi_store (s : State) (x : Wxi) : (s.setWxi x).store = s.store := rfl
@[simp] theorem State.setWxi_storeTorn (s : State) (x : Wxi) : (s.setWxi x).storeTorn = s.storeTorn := rfl
@[simp] theorem State.setWxi_staging (s : State) (x : Wxi) : (s.setWxi x).staging = s.staging := rfl
@[simp] theorem State.setWxi_commitState (s : State) (x : Wxi) : (s.setWxi x).commitState = s.commitState := rfl
@[simp] theorem State.setWxi_pins (s : State) (x : Wxi) : (s.setWxi x).pins = s.pins := rfl
@[simp] theorem State.setWxi_src (s : State) (x : Wxi) : (s.setWxi x).src = s.src := rfl
@[simp] theorem State.setWxi_thr (s : State) (x : Wxi) : (s.setWxi x).thr = s.thr := rfl
@[simp] theorem State.setWxi_req (s : State) (x : Wxi) : (s.setWxi x).req = s.req := rfl
@[simp] theorem State.setWxi_dch (s : State) (x : Wxi) : (s.setWxi x).dch = s.dch := rfl
@[simp] theorem State.setWxi_supply (s : State) (x : Wxi) : (s.setWxi x).supply = s.supply := rfl
@[simp] theorem State.setWxi_rsu (s : State) (x : Wxi) : (s.setWxi x).rsu = s.rsu := rfl
@[simp] theorem State.setWxi_lin (s : State) (x : Wxi) : (s.setWxi x).lin = s.lin := rfl
@[simp] theorem State.setWxi_rep (s : State) (x : Wxi) : (s.setWxi x).rep = s.rep := rfl

/-! ### `setPin` -/

@[simp] theorem State.setPin_pending (s : State) (c : Chan) (x : ChanPins) : (s.setPin c x).pending = s.pending := rfl
@[simp] theorem State.setPin_now (s : State) (c : Chan) (x : ChanPins) : (s.setPin c x).now = s.now := rfl
@[simp] theorem State.setPin_freeCount (s : State) (c : Chan) (x : ChanPins) : (s.setPin c x).freeCount = s.freeCount := rfl
@[simp] theorem State.setPin_phase (s : State) (c : Chan) (x : ChanPins) : (s.setPin c x).phase = s.phase := rfl
@[simp] theorem State.setPin_straps (s : State) (c : Chan) (x : ChanPins) : (s.setPin c x).straps = s.straps := rfl
@[simp] theorem State.setPin_config (s : State) (c : Chan) (x : ChanPins) : (s.setPin c x).config = s.config := rfl
@[simp] theorem State.setPin_configFault (s : State) (c : Chan) (x : ChanPins) : (s.setPin c x).configFault = s.configFault := rfl
@[simp] theorem State.setPin_blockRead (s : State) (c : Chan) (x : ChanPins) : (s.setPin c x).blockRead = s.blockRead := rfl
@[simp] theorem State.setPin_calLeft (s : State) (c : Chan) (x : ChanPins) : (s.setPin c x).calLeft = s.calLeft := rfl
@[simp] theorem State.setPin_calAt (s : State) (c : Chan) (x : ChanPins) : (s.setPin c x).calAt = s.calAt := rfl
@[simp] theorem State.setPin_listenInAt (s : State) (c : Chan) (x : ChanPins) : (s.setPin c x).listenInAt = s.listenInAt := rfl
@[simp] theorem State.setPin_store (s : State) (c : Chan) (x : ChanPins) : (s.setPin c x).store = s.store := rfl
@[simp] theorem State.setPin_storeTorn (s : State) (c : Chan) (x : ChanPins) : (s.setPin c x).storeTorn = s.storeTorn := rfl
@[simp] theorem State.setPin_staging (s : State) (c : Chan) (x : ChanPins) : (s.setPin c x).staging = s.staging := rfl
@[simp] theorem State.setPin_commitState (s : State) (c : Chan) (x : ChanPins) : (s.setPin c x).commitState = s.commitState := rfl
@[simp] theorem State.setPin_wxi (s : State) (c : Chan) (x : ChanPins) : (s.setPin c x).wxi = s.wxi := rfl
@[simp] theorem State.setPin_src (s : State) (c : Chan) (x : ChanPins) : (s.setPin c x).src = s.src := rfl
@[simp] theorem State.setPin_thr (s : State) (c : Chan) (x : ChanPins) : (s.setPin c x).thr = s.thr := rfl
@[simp] theorem State.setPin_req (s : State) (c : Chan) (x : ChanPins) : (s.setPin c x).req = s.req := rfl
@[simp] theorem State.setPin_dch (s : State) (c : Chan) (x : ChanPins) : (s.setPin c x).dch = s.dch := rfl
@[simp] theorem State.setPin_supply (s : State) (c : Chan) (x : ChanPins) : (s.setPin c x).supply = s.supply := rfl
@[simp] theorem State.setPin_rsu (s : State) (c : Chan) (x : ChanPins) : (s.setPin c x).rsu = s.rsu := rfl
@[simp] theorem State.setPin_lin (s : State) (c : Chan) (x : ChanPins) : (s.setPin c x).lin = s.lin := rfl
@[simp] theorem State.setPin_rep (s : State) (c : Chan) (x : ChanPins) : (s.setPin c x).rep = s.rep := rfl

/-! ### `setThr` -/

@[simp] theorem State.setThr_pending (s : State) (c : Chan) (x : Threat) : (s.setThr c x).pending = s.pending := rfl
@[simp] theorem State.setThr_now (s : State) (c : Chan) (x : Threat) : (s.setThr c x).now = s.now := rfl
@[simp] theorem State.setThr_freeCount (s : State) (c : Chan) (x : Threat) : (s.setThr c x).freeCount = s.freeCount := rfl
@[simp] theorem State.setThr_phase (s : State) (c : Chan) (x : Threat) : (s.setThr c x).phase = s.phase := rfl
@[simp] theorem State.setThr_straps (s : State) (c : Chan) (x : Threat) : (s.setThr c x).straps = s.straps := rfl
@[simp] theorem State.setThr_config (s : State) (c : Chan) (x : Threat) : (s.setThr c x).config = s.config := rfl
@[simp] theorem State.setThr_configFault (s : State) (c : Chan) (x : Threat) : (s.setThr c x).configFault = s.configFault := rfl
@[simp] theorem State.setThr_blockRead (s : State) (c : Chan) (x : Threat) : (s.setThr c x).blockRead = s.blockRead := rfl
@[simp] theorem State.setThr_calLeft (s : State) (c : Chan) (x : Threat) : (s.setThr c x).calLeft = s.calLeft := rfl
@[simp] theorem State.setThr_calAt (s : State) (c : Chan) (x : Threat) : (s.setThr c x).calAt = s.calAt := rfl
@[simp] theorem State.setThr_listenInAt (s : State) (c : Chan) (x : Threat) : (s.setThr c x).listenInAt = s.listenInAt := rfl
@[simp] theorem State.setThr_store (s : State) (c : Chan) (x : Threat) : (s.setThr c x).store = s.store := rfl
@[simp] theorem State.setThr_storeTorn (s : State) (c : Chan) (x : Threat) : (s.setThr c x).storeTorn = s.storeTorn := rfl
@[simp] theorem State.setThr_staging (s : State) (c : Chan) (x : Threat) : (s.setThr c x).staging = s.staging := rfl
@[simp] theorem State.setThr_commitState (s : State) (c : Chan) (x : Threat) : (s.setThr c x).commitState = s.commitState := rfl
@[simp] theorem State.setThr_pins (s : State) (c : Chan) (x : Threat) : (s.setThr c x).pins = s.pins := rfl
@[simp] theorem State.setThr_wxi (s : State) (c : Chan) (x : Threat) : (s.setThr c x).wxi = s.wxi := rfl
@[simp] theorem State.setThr_src (s : State) (c : Chan) (x : Threat) : (s.setThr c x).src = s.src := rfl
@[simp] theorem State.setThr_req (s : State) (c : Chan) (x : Threat) : (s.setThr c x).req = s.req := rfl
@[simp] theorem State.setThr_dch (s : State) (c : Chan) (x : Threat) : (s.setThr c x).dch = s.dch := rfl
@[simp] theorem State.setThr_supply (s : State) (c : Chan) (x : Threat) : (s.setThr c x).supply = s.supply := rfl
@[simp] theorem State.setThr_rsu (s : State) (c : Chan) (x : Threat) : (s.setThr c x).rsu = s.rsu := rfl
@[simp] theorem State.setThr_lin (s : State) (c : Chan) (x : Threat) : (s.setThr c x).lin = s.lin := rfl
@[simp] theorem State.setThr_rep (s : State) (c : Chan) (x : Threat) : (s.setThr c x).rep = s.rep := rfl

/-! ### `setSrc` -/

@[simp] theorem State.setSrc_pending (s : State) (x : Src) : (s.setSrc x).pending = s.pending := rfl
@[simp] theorem State.setSrc_now (s : State) (x : Src) : (s.setSrc x).now = s.now := rfl
@[simp] theorem State.setSrc_freeCount (s : State) (x : Src) : (s.setSrc x).freeCount = s.freeCount := rfl
@[simp] theorem State.setSrc_phase (s : State) (x : Src) : (s.setSrc x).phase = s.phase := rfl
@[simp] theorem State.setSrc_straps (s : State) (x : Src) : (s.setSrc x).straps = s.straps := rfl
@[simp] theorem State.setSrc_config (s : State) (x : Src) : (s.setSrc x).config = s.config := rfl
@[simp] theorem State.setSrc_configFault (s : State) (x : Src) : (s.setSrc x).configFault = s.configFault := rfl
@[simp] theorem State.setSrc_blockRead (s : State) (x : Src) : (s.setSrc x).blockRead = s.blockRead := rfl
@[simp] theorem State.setSrc_calLeft (s : State) (x : Src) : (s.setSrc x).calLeft = s.calLeft := rfl
@[simp] theorem State.setSrc_calAt (s : State) (x : Src) : (s.setSrc x).calAt = s.calAt := rfl
@[simp] theorem State.setSrc_listenInAt (s : State) (x : Src) : (s.setSrc x).listenInAt = s.listenInAt := rfl
@[simp] theorem State.setSrc_store (s : State) (x : Src) : (s.setSrc x).store = s.store := rfl
@[simp] theorem State.setSrc_storeTorn (s : State) (x : Src) : (s.setSrc x).storeTorn = s.storeTorn := rfl
@[simp] theorem State.setSrc_staging (s : State) (x : Src) : (s.setSrc x).staging = s.staging := rfl
@[simp] theorem State.setSrc_commitState (s : State) (x : Src) : (s.setSrc x).commitState = s.commitState := rfl
@[simp] theorem State.setSrc_pins (s : State) (x : Src) : (s.setSrc x).pins = s.pins := rfl
@[simp] theorem State.setSrc_wxi (s : State) (x : Src) : (s.setSrc x).wxi = s.wxi := rfl
@[simp] theorem State.setSrc_thr (s : State) (x : Src) : (s.setSrc x).thr = s.thr := rfl
@[simp] theorem State.setSrc_req (s : State) (x : Src) : (s.setSrc x).req = s.req := rfl
@[simp] theorem State.setSrc_dch (s : State) (x : Src) : (s.setSrc x).dch = s.dch := rfl
@[simp] theorem State.setSrc_supply (s : State) (x : Src) : (s.setSrc x).supply = s.supply := rfl
@[simp] theorem State.setSrc_rsu (s : State) (x : Src) : (s.setSrc x).rsu = s.rsu := rfl
@[simp] theorem State.setSrc_lin (s : State) (x : Src) : (s.setSrc x).lin = s.lin := rfl
@[simp] theorem State.setSrc_rep (s : State) (x : Src) : (s.setSrc x).rep = s.rep := rfl

/-! ### `setRuns` -/

@[simp] theorem State.setRuns_pending (s : State) (x : List RunEntry) : (s.setRuns x).pending = s.pending := rfl
@[simp] theorem State.setRuns_now (s : State) (x : List RunEntry) : (s.setRuns x).now = s.now := rfl
@[simp] theorem State.setRuns_freeCount (s : State) (x : List RunEntry) : (s.setRuns x).freeCount = s.freeCount := rfl
@[simp] theorem State.setRuns_phase (s : State) (x : List RunEntry) : (s.setRuns x).phase = s.phase := rfl
@[simp] theorem State.setRuns_straps (s : State) (x : List RunEntry) : (s.setRuns x).straps = s.straps := rfl
@[simp] theorem State.setRuns_config (s : State) (x : List RunEntry) : (s.setRuns x).config = s.config := rfl
@[simp] theorem State.setRuns_configFault (s : State) (x : List RunEntry) : (s.setRuns x).configFault = s.configFault := rfl
@[simp] theorem State.setRuns_blockRead (s : State) (x : List RunEntry) : (s.setRuns x).blockRead = s.blockRead := rfl
@[simp] theorem State.setRuns_calLeft (s : State) (x : List RunEntry) : (s.setRuns x).calLeft = s.calLeft := rfl
@[simp] theorem State.setRuns_calAt (s : State) (x : List RunEntry) : (s.setRuns x).calAt = s.calAt := rfl
@[simp] theorem State.setRuns_listenInAt (s : State) (x : List RunEntry) : (s.setRuns x).listenInAt = s.listenInAt := rfl
@[simp] theorem State.setRuns_store (s : State) (x : List RunEntry) : (s.setRuns x).store = s.store := rfl
@[simp] theorem State.setRuns_storeTorn (s : State) (x : List RunEntry) : (s.setRuns x).storeTorn = s.storeTorn := rfl
@[simp] theorem State.setRuns_staging (s : State) (x : List RunEntry) : (s.setRuns x).staging = s.staging := rfl
@[simp] theorem State.setRuns_commitState (s : State) (x : List RunEntry) : (s.setRuns x).commitState = s.commitState := rfl
@[simp] theorem State.setRuns_pins (s : State) (x : List RunEntry) : (s.setRuns x).pins = s.pins := rfl
@[simp] theorem State.setRuns_wxi (s : State) (x : List RunEntry) : (s.setRuns x).wxi = s.wxi := rfl
@[simp] theorem State.setRuns_src (s : State) (x : List RunEntry) : (s.setRuns x).src = s.src := rfl
@[simp] theorem State.setRuns_thr (s : State) (x : List RunEntry) : (s.setRuns x).thr = s.thr := rfl
@[simp] theorem State.setRuns_req (s : State) (x : List RunEntry) : (s.setRuns x).req = s.req := rfl
@[simp] theorem State.setRuns_dch (s : State) (x : List RunEntry) : (s.setRuns x).dch = s.dch := rfl
@[simp] theorem State.setRuns_supply (s : State) (x : List RunEntry) : (s.setRuns x).supply = s.supply := rfl
@[simp] theorem State.setRuns_lin (s : State) (x : List RunEntry) : (s.setRuns x).lin = s.lin := rfl
@[simp] theorem State.setRuns_rep (s : State) (x : List RunEntry) : (s.setRuns x).rep = s.rep := rfl

/-! ### `setToken` -/

@[simp] theorem State.setToken_pending (s : State) (k : Nat) : (s.setToken k).pending = s.pending := rfl
@[simp] theorem State.setToken_now (s : State) (k : Nat) : (s.setToken k).now = s.now := rfl
@[simp] theorem State.setToken_freeCount (s : State) (k : Nat) : (s.setToken k).freeCount = s.freeCount := rfl
@[simp] theorem State.setToken_phase (s : State) (k : Nat) : (s.setToken k).phase = s.phase := rfl
@[simp] theorem State.setToken_straps (s : State) (k : Nat) : (s.setToken k).straps = s.straps := rfl
@[simp] theorem State.setToken_config (s : State) (k : Nat) : (s.setToken k).config = s.config := rfl
@[simp] theorem State.setToken_configFault (s : State) (k : Nat) : (s.setToken k).configFault = s.configFault := rfl
@[simp] theorem State.setToken_blockRead (s : State) (k : Nat) : (s.setToken k).blockRead = s.blockRead := rfl
@[simp] theorem State.setToken_calLeft (s : State) (k : Nat) : (s.setToken k).calLeft = s.calLeft := rfl
@[simp] theorem State.setToken_calAt (s : State) (k : Nat) : (s.setToken k).calAt = s.calAt := rfl
@[simp] theorem State.setToken_listenInAt (s : State) (k : Nat) : (s.setToken k).listenInAt = s.listenInAt := rfl
@[simp] theorem State.setToken_store (s : State) (k : Nat) : (s.setToken k).store = s.store := rfl
@[simp] theorem State.setToken_storeTorn (s : State) (k : Nat) : (s.setToken k).storeTorn = s.storeTorn := rfl
@[simp] theorem State.setToken_staging (s : State) (k : Nat) : (s.setToken k).staging = s.staging := rfl
@[simp] theorem State.setToken_commitState (s : State) (k : Nat) : (s.setToken k).commitState = s.commitState := rfl
@[simp] theorem State.setToken_pins (s : State) (k : Nat) : (s.setToken k).pins = s.pins := rfl
@[simp] theorem State.setToken_wxi (s : State) (k : Nat) : (s.setToken k).wxi = s.wxi := rfl
@[simp] theorem State.setToken_src (s : State) (k : Nat) : (s.setToken k).src = s.src := rfl
@[simp] theorem State.setToken_thr (s : State) (k : Nat) : (s.setToken k).thr = s.thr := rfl
@[simp] theorem State.setToken_req (s : State) (k : Nat) : (s.setToken k).req = s.req := rfl
@[simp] theorem State.setToken_dch (s : State) (k : Nat) : (s.setToken k).dch = s.dch := rfl
@[simp] theorem State.setToken_supply (s : State) (k : Nat) : (s.setToken k).supply = s.supply := rfl
@[simp] theorem State.setToken_lin (s : State) (k : Nat) : (s.setToken k).lin = s.lin := rfl
@[simp] theorem State.setToken_rep (s : State) (k : Nat) : (s.setToken k).rep = s.rep := rfl

/-! ### What the setters read back -/

@[simp] theorem State.setLin_lin (s : State) (x : Lin) : (s.setLin x).lin = x := rfl

@[simp] theorem State.setWxi_wxi (s : State) (x : Wxi) : (s.setWxi x).wxi = x := rfl

@[simp] theorem State.chan_setChan (s : State) (c : Chan) (x : Channel) : (s.setChan c x).chan c = x :=
  Pair.get_set_same _ _ _

@[simp] theorem State.chan_setChan_other (s : State) (c : Chan) (x : Channel) :
    (s.setChan c x).chan (chanOther c) = s.chan (chanOther c) := Pair.get_set_other _ _ _

theorem State.chan_setChan_get (s : State) (c d : Chan) (x : Channel) :
    (s.setChan c x).chan d = if d = c then x else s.chan d := Pair.get_set _ _ _ _

@[simp] theorem State.setChan_chan_self (s : State) (c : Chan) : s.setChan c (s.chan c) = s := by
  cases c <;> rfl

@[simp] theorem State.claim_setClaim (s : State) (c : Chan) (x : ClaimRecord) :
    (s.setClaim c x).claim c = x := Pair.get_set_same _ _ _

@[simp] theorem State.claim_setClaim_other (s : State) (c : Chan) (x : ClaimRecord) :
    (s.setClaim c x).claim (chanOther c) = s.claim (chanOther c) := Pair.get_set_other _ _ _

theorem State.claim_setClaim_get (s : State) (c d : Chan) (x : ClaimRecord) :
    (s.setClaim c x).claim d = if d = c then x else s.claim d := Pair.get_set _ _ _ _

@[simp] theorem State.setClaim_table (s : State) (c : Chan) (x : ClaimRecord) :
    (s.setClaim c x).rsu.table = s.rsu.table := rfl

@[simp] theorem State.setClaim_working (s : State) (c : Chan) (x : ClaimRecord) :
    (s.setClaim c x).rsu.working = s.rsu.working := rfl

@[simp] theorem State.setClaim_mismatch (s : State) (c : Chan) (x : ClaimRecord) :
    (s.setClaim c x).rsu.mismatch = s.rsu.mismatch := rfl

@[simp] theorem State.setClaim_tokenCounter (s : State) (c : Chan) (x : ClaimRecord) :
    (s.setClaim c x).rsu.tokenCounter = s.rsu.tokenCounter := rfl

@[simp] theorem State.table_setTable (s : State) (c : Chan) (x : ReqTable) :
    (s.setTable c x).table c = x := Pair.get_set_same _ _ _

@[simp] theorem State.table_setTable_other (s : State) (c : Chan) (x : ReqTable) :
    (s.setTable c x).table (chanOther c) = s.table (chanOther c) := Pair.get_set_other _ _ _

@[simp] theorem State.setTable_arrival (s : State) (c : Chan) (x : ReqTable) :
    (s.setTable c x).req.arrival = s.req.arrival := rfl

@[simp] theorem State.setTable_effective (s : State) (c : Chan) (x : ReqTable) :
    (s.setTable c x).req.effective = s.req.effective := rfl

@[simp] theorem State.pin_setPin (s : State) (c : Chan) (x : ChanPins) : (s.setPin c x).pin c = x :=
  Pair.get_set_same _ _ _

@[simp] theorem State.pin_setPin_other (s : State) (c : Chan) (x : ChanPins) :
    (s.setPin c x).pin (chanOther c) = s.pin (chanOther c) := Pair.get_set_other _ _ _

@[simp] theorem State.setThr_thr (s : State) (c : Chan) (x : Threat) : (s.setThr c x).thr = s.thr.set c x := rfl
@[simp] theorem State.setSrc_src (s : State) (x : Src) : (s.setSrc x).src = x := rfl
@[simp] theorem State.setRuns_table (s : State) (x : List RunEntry) : (s.setRuns x).rsu.table = x := rfl
@[simp] theorem State.setRuns_working (s : State) (x : List RunEntry) :
    (s.setRuns x).rsu.working = s.rsu.working := rfl
@[simp] theorem State.setRuns_mismatch (s : State) (x : List RunEntry) :
    (s.setRuns x).rsu.mismatch = s.rsu.mismatch := rfl
@[simp] theorem State.setRuns_tokenCounter (s : State) (x : List RunEntry) :
    (s.setRuns x).rsu.tokenCounter = s.rsu.tokenCounter := rfl
@[simp] theorem State.setRuns_claims (s : State) (x : List RunEntry) :
    (s.setRuns x).rsu.claims = s.rsu.claims := rfl
@[simp] theorem State.setToken_tokenCounter (s : State) (k : Nat) : (s.setToken k).rsu.tokenCounter = k := rfl
@[simp] theorem State.setToken_table (s : State) (k : Nat) : (s.setToken k).rsu.table = s.rsu.table := rfl
@[simp] theorem State.setToken_claims (s : State) (k : Nat) : (s.setToken k).rsu.claims = s.rsu.claims := rfl

/-! ### What is read through a setter that does not touch it -/

@[simp] theorem State.claim_setChan (s : State) (c d : Chan) (x : Channel) :
    (s.setChan c x).claim d = s.claim d := rfl
@[simp] theorem State.held_setChan (s : State) (c d : Chan) (x : Channel) :
    (s.setChan c x).held d = s.held d := rfl
@[simp] theorem State.pin_setChan (s : State) (c d : Chan) (x : Channel) :
    (s.setChan c x).pin d = s.pin d := rfl
@[simp] theorem State.setting_setChan (s : State) (c d : Chan) (x : Channel) :
    (s.setChan c x).setting d = s.setting d := rfl
@[simp] theorem State.table_setChan (s : State) (c d : Chan) (x : Channel) :
    (s.setChan c x).table d = s.table d := rfl
@[simp] theorem State.present_setChan (s : State) (c d : Chan) (x : Channel) :
    (s.setChan c x).present d = s.present d := rfl
@[simp] theorem State.chan_setClaim (s : State) (c d : Chan) (x : ClaimRecord) :
    (s.setClaim c x).chan d = s.chan d := rfl
@[simp] theorem State.held_setClaim (s : State) (c d : Chan) (x : ClaimRecord) :
    (s.setClaim c x).held d = s.held d := rfl
@[simp] theorem State.pin_setClaim (s : State) (c d : Chan) (x : ClaimRecord) :
    (s.setClaim c x).pin d = s.pin d := rfl
@[simp] theorem State.setting_setClaim (s : State) (c d : Chan) (x : ClaimRecord) :
    (s.setClaim c x).setting d = s.setting d := rfl
@[simp] theorem State.table_setClaim (s : State) (c d : Chan) (x : ClaimRecord) :
    (s.setClaim c x).table d = s.table d := rfl
@[simp] theorem State.present_setClaim (s : State) (c d : Chan) (x : ClaimRecord) :
    (s.setClaim c x).present d = s.present d := rfl
@[simp] theorem State.chan_setTable (s : State) (c d : Chan) (x : ReqTable) :
    (s.setTable c x).chan d = s.chan d := rfl
@[simp] theorem State.claim_setTable (s : State) (c d : Chan) (x : ReqTable) :
    (s.setTable c x).claim d = s.claim d := rfl
@[simp] theorem State.held_setTable (s : State) (c d : Chan) (x : ReqTable) :
    (s.setTable c x).held d = s.held d := rfl
@[simp] theorem State.present_setTable (s : State) (c d : Chan) (x : ReqTable) :
    (s.setTable c x).present d = s.present d := rfl
@[simp] theorem State.chan_setLin (s : State) (d : Chan) (x : Lin) : (s.setLin x).chan d = s.chan d := rfl
@[simp] theorem State.claim_setLin (s : State) (d : Chan) (x : Lin) : (s.setLin x).claim d = s.claim d := rfl
@[simp] theorem State.held_setLin (s : State) (d : Chan) (x : Lin) : (s.setLin x).held d = s.held d := rfl
@[simp] theorem State.pin_setLin (s : State) (d : Chan) (x : Lin) : (s.setLin x).pin d = s.pin d := rfl
@[simp] theorem State.table_setLin (s : State) (d : Chan) (x : Lin) : (s.setLin x).table d = s.table d := rfl
@[simp] theorem State.setting_setLin (s : State) (d : Chan) (x : Lin) :
    (s.setLin x).setting d = s.setting d := rfl
@[simp] theorem State.present_setLin (s : State) (d : Chan) (x : Lin) :
    (s.setLin x).present d = s.present d := rfl
@[simp] theorem State.chan_setWxi (s : State) (d : Chan) (x : Wxi) : (s.setWxi x).chan d = s.chan d := rfl
@[simp] theorem State.claim_setWxi (s : State) (d : Chan) (x : Wxi) : (s.setWxi x).claim d = s.claim d := rfl
@[simp] theorem State.held_setWxi (s : State) (d : Chan) (x : Wxi) : (s.setWxi x).held d = s.held d := rfl
@[simp] theorem State.present_setWxi (s : State) (d : Chan) (x : Wxi) :
    (s.setWxi x).present d = s.present d := rfl
@[simp] theorem State.chan_setPin (s : State) (c d : Chan) (x : ChanPins) :
    (s.setPin c x).chan d = s.chan d := rfl
@[simp] theorem State.claim_setPin (s : State) (c d : Chan) (x : ChanPins) :
    (s.setPin c x).claim d = s.claim d := rfl
@[simp] theorem State.held_setPin (s : State) (c d : Chan) (x : ChanPins) :
    (s.setPin c x).held d = s.held d := rfl
@[simp] theorem State.setting_setPin (s : State) (c d : Chan) (x : ChanPins) :
    (s.setPin c x).setting d = s.setting d := rfl
@[simp] theorem State.present_setPin (s : State) (c d : Chan) (x : ChanPins) :
    (s.setPin c x).present d = s.present d := rfl

@[simp] theorem State.chan_setThr (s : State) (c : Chan) (x : Threat) (d : Chan) : (s.setThr c x).chan d = s.chan d := rfl
@[simp] theorem State.claim_setThr (s : State) (c : Chan) (x : Threat) (d : Chan) : (s.setThr c x).claim d = s.claim d := rfl
@[simp] theorem State.present_setThr (s : State) (c : Chan) (x : Threat) (d : Chan) : (s.setThr c x).present d = s.present d := rfl
@[simp] theorem State.setting_setThr (s : State) (c : Chan) (x : Threat) (d : Chan) : (s.setThr c x).setting d = s.setting d := rfl
@[simp] theorem State.pin_setThr (s : State) (c : Chan) (x : Threat) (d : Chan) : (s.setThr c x).pin d = s.pin d := rfl
@[simp] theorem State.table_setThr (s : State) (c : Chan) (x : Threat) (d : Chan) : (s.setThr c x).table d = s.table d := rfl
@[simp] theorem State.energised_setThr (s : State) (c : Chan) (x : Threat) (d : Chan) : (s.setThr c x).energised d = s.energised d := rfl
@[simp] theorem State.chan_setSrc (s : State) (x : Src) (d : Chan) : (s.setSrc x).chan d = s.chan d := rfl
@[simp] theorem State.claim_setSrc (s : State) (x : Src) (d : Chan) : (s.setSrc x).claim d = s.claim d := rfl
@[simp] theorem State.present_setSrc (s : State) (x : Src) (d : Chan) : (s.setSrc x).present d = s.present d := rfl
@[simp] theorem State.setting_setSrc (s : State) (x : Src) (d : Chan) : (s.setSrc x).setting d = s.setting d := rfl
@[simp] theorem State.pin_setSrc (s : State) (x : Src) (d : Chan) : (s.setSrc x).pin d = s.pin d := rfl
@[simp] theorem State.table_setSrc (s : State) (x : Src) (d : Chan) : (s.setSrc x).table d = s.table d := rfl
@[simp] theorem State.energised_setSrc (s : State) (x : Src) (d : Chan) : (s.setSrc x).energised d = s.energised d := rfl
@[simp] theorem State.chan_setRuns (s : State) (x : List RunEntry) (d : Chan) : (s.setRuns x).chan d = s.chan d := rfl
@[simp] theorem State.claim_setRuns (s : State) (x : List RunEntry) (d : Chan) : (s.setRuns x).claim d = s.claim d := rfl
@[simp] theorem State.present_setRuns (s : State) (x : List RunEntry) (d : Chan) : (s.setRuns x).present d = s.present d := rfl
@[simp] theorem State.setting_setRuns (s : State) (x : List RunEntry) (d : Chan) : (s.setRuns x).setting d = s.setting d := rfl
@[simp] theorem State.pin_setRuns (s : State) (x : List RunEntry) (d : Chan) : (s.setRuns x).pin d = s.pin d := rfl
@[simp] theorem State.table_setRuns (s : State) (x : List RunEntry) (d : Chan) : (s.setRuns x).table d = s.table d := rfl
@[simp] theorem State.energised_setRuns (s : State) (x : List RunEntry) (d : Chan) : (s.setRuns x).energised d = s.energised d := rfl
@[simp] theorem State.chan_setToken (s : State) (k : Nat) (d : Chan) : (s.setToken k).chan d = s.chan d := rfl
@[simp] theorem State.claim_setToken (s : State) (k : Nat) (d : Chan) : (s.setToken k).claim d = s.claim d := rfl
@[simp] theorem State.present_setToken (s : State) (k : Nat) (d : Chan) : (s.setToken k).present d = s.present d := rfl
@[simp] theorem State.setting_setToken (s : State) (k : Nat) (d : Chan) : (s.setToken k).setting d = s.setting d := rfl
@[simp] theorem State.pin_setToken (s : State) (k : Nat) (d : Chan) : (s.setToken k).pin d = s.pin d := rfl
@[simp] theorem State.table_setToken (s : State) (k : Nat) (d : Chan) : (s.setToken k).table d = s.table d := rfl
@[simp] theorem State.energised_setToken (s : State) (k : Nat) (d : Chan) : (s.setToken k).energised d = s.energised d := rfl
@[simp] theorem State.held_setSrc (s : State) (x : Src) (d : Chan) : (s.setSrc x).held d = s.held d := rfl
@[simp] theorem State.held_setRuns (s : State) (x : List RunEntry) (d : Chan) : (s.setRuns x).held d = s.held d := rfl

/-! ### `markEffective`, `hear` -/

@[simp] theorem State.markEffective_pending (s : State) (c : Chan) : (s.markEffective c).pending = s.pending := rfl
@[simp] theorem State.markEffective_now (s : State) (c : Chan) : (s.markEffective c).now = s.now := rfl
@[simp] theorem State.markEffective_phase (s : State) (c : Chan) : (s.markEffective c).phase = s.phase := rfl
@[simp] theorem State.markEffective_config (s : State) (c : Chan) : (s.markEffective c).config = s.config := rfl
@[simp] theorem State.markEffective_dch (s : State) (c : Chan) : (s.markEffective c).dch = s.dch := rfl
@[simp] theorem State.markEffective_rsu (s : State) (c : Chan) : (s.markEffective c).rsu = s.rsu := rfl
@[simp] theorem State.markEffective_lin (s : State) (c : Chan) : (s.markEffective c).lin = s.lin := rfl
@[simp] theorem State.markEffective_thr (s : State) (c : Chan) : (s.markEffective c).thr = s.thr := rfl
@[simp] theorem State.markEffective_supply (s : State) (c : Chan) : (s.markEffective c).supply = s.supply := rfl
@[simp] theorem State.markEffective_pins (s : State) (c : Chan) : (s.markEffective c).pins = s.pins := rfl
@[simp] theorem State.markEffective_src (s : State) (c : Chan) : (s.markEffective c).src = s.src := rfl
@[simp] theorem State.markEffective_wxi (s : State) (c : Chan) : (s.markEffective c).wxi = s.wxi := rfl
@[simp] theorem State.chan_markEffective (s : State) (c d : Chan) : (s.markEffective c).chan d = s.chan d := rfl
@[simp] theorem State.claim_markEffective (s : State) (c d : Chan) : (s.markEffective c).claim d = s.claim d := rfl
@[simp] theorem State.present_markEffective (s : State) (c d : Chan) : (s.markEffective c).present d = s.present d := rfl
@[simp] theorem State.setting_markEffective (s : State) (c d : Chan) : (s.markEffective c).setting d = s.setting d := rfl
@[simp] theorem State.pin_markEffective (s : State) (c d : Chan) : (s.markEffective c).pin d = s.pin d := rfl
@[simp] theorem State.table_markEffective (s : State) (c d : Chan) : (s.markEffective c).table d = s.table d := rfl
@[simp] theorem State.energised_markEffective (s : State) (c d : Chan) : (s.markEffective c).energised d = s.energised d := rfl
@[simp] theorem State.held_markEffective (s : State) (c d : Chan) : (s.markEffective c).held d = s.held d := rfl
@[simp] theorem ClaimRecord.hear_state (r : ClaimRecord) (k : Nat) : (r.hear k).state = r.state := rfl
@[simp] theorem ClaimRecord.hear_token (r : ClaimRecord) (k : Nat) : (r.hear k).token = r.token := rfl
@[simp] theorem ClaimRecord.hear_announcedVals (r : ClaimRecord) (k : Nat) : (r.hear k).announcedVals = r.announcedVals := rfl
@[simp] theorem ClaimRecord.hear_current (r : ClaimRecord) (k : Nat) : (r.hear k).current = r.current := rfl
@[simp] theorem ClaimRecord.hear_announced (r : ClaimRecord) (k : Nat) : (r.hear k).announced = r.announced := rfl
@[simp] theorem ClaimRecord.hear_completion (r : ClaimRecord) (k : Nat) : (r.hear k).completion = r.completion := rfl
@[simp] theorem ClaimRecord.hear_window (r : ClaimRecord) (k : Nat) : (r.hear k).window = r.window := rfl
@[simp] theorem ClaimRecord.hear_stagger (r : ClaimRecord) (k : Nat) : (r.hear k).stagger = r.stagger := rfl
@[simp] theorem ClaimRecord.hear_retry (r : ClaimRecord) (k : Nat) : (r.hear k).retry = r.retry := rfl
@[simp] theorem ClaimRecord.hear_owedRelease (r : ClaimRecord) (k : Nat) : (r.hear k).owedRelease = r.owedRelease := rfl
@[simp] theorem ClaimRecord.hear_owedRenewal (r : ClaimRecord) (k : Nat) : (r.hear k).owedRenewal = r.owedRenewal := rfl
/-- A token has been heard exactly if it is the one just gone out or was heard before. -/
theorem ClaimRecord.mem_hear (r : ClaimRecord) (k t : Nat) : t ∈ (r.hear k).heard ↔ t = k ∨ t ∈ r.heard := by
  simp only [ClaimRecord.hear]
  split <;> simp_all
/-- The tokens heard stay without repeats. -/
theorem ClaimRecord.nodup_hear (r : ClaimRecord) (k : Nat) (h : r.heard.Nodup) : (r.hear k).heard.Nodup := by
  simp only [ClaimRecord.hear]
  split <;> simp_all

end Sys2Proof.Machine
end

