-- ==== Sys2Proof/Laws/Frame.lean ====
section
/-! SUPPORT. What the working off of signals leaves alone: everything that `State.base` keeps. -/

namespace Sys2Proof.Machine

open Sys2Proof

/-- What equal bases of the Line Interface say. -/
theorem Lin.base_eq_iff (l m : Lin) : l.base = m.base ↔
    (l.sending = m.sending ∧ l.round = m.round ∧ l.assembly = m.assembly ∧ l.giveUp = m.giveUp
      ∧ l.stuck = m.stuck ∧ l.conflict = m.conflict ∧ l.stuckTimer = m.stuckTimer
      ∧ l.accepted = m.accepted) := by
  simp [Lin.base]

/-- What equal bases of the Run Slot Unit say. -/
theorem Rsu.base_eq_iff (r q : Rsu) : r.base = q.base ↔
    (r.table = q.table ∧ r.working = q.working ∧ r.mismatch = q.mismatch) := by
  simp [Rsu.base]

/-- What equal bases say, field by field. -/
theorem State.base_eq_iff (s t : State) : s.base = t.base ↔
    (s.pending = t.pending ∧ s.now = t.now ∧ s.freeCount = t.freeCount ∧ s.phase = t.phase
      ∧ s.straps = t.straps ∧ s.config = t.config ∧ s.configFault = t.configFault
      ∧ s.blockRead = t.blockRead ∧ s.calLeft = t.calLeft ∧ s.calAt = t.calAt
      ∧ s.listenInAt = t.listenInAt ∧ s.store = t.store ∧ s.storeTorn = t.storeTorn
      ∧ s.staging = t.staging ∧ s.commitState = t.commitState ∧ s.pins = t.pins ∧ s.wxi = t.wxi
      ∧ s.src = t.src ∧ s.thr = t.thr ∧ s.supply = t.supply ∧ s.rsu.base = t.rsu.base
      ∧ s.lin.base = t.lin.base ∧ s.rep.interval = t.rep.interval
      ∧ s.rep.outcome = t.rep.outcome) := by
  simp [State.base]

/-! ### The setters -/

@[simp] theorem State.base_setChan (s : State) (c : Chan) (x : Channel) :
    (s.setChan c x).base = s.base := rfl
@[simp] theorem State.base_setClaim (s : State) (c : Chan) (x : ClaimRecord) :
    (s.setClaim c x).base = s.base := rfl
@[simp] theorem State.base_setTable (s : State) (c : Chan) (x : ReqTable) :
    (s.setTable c x).base = s.base := rfl
@[simp] theorem State.base_req (s : State) (x : Req) : { s with req := x }.base = s.base := rfl
@[simp] theorem State.base_setToken (s : State) (k : Nat) : (s.setToken k).base = s.base := rfl
@[simp] theorem State.base_settle (s : State) : s.settle.base = s.base := rfl
theorem State.base_setLin (s : State) (x : Lin) (h : x.base = s.lin.base) :
    (s.setLin x).base = s.base := by
  simp [State.base, State.setLin, h]

/-! ### Requests to the Line Interface -/

@[simp] theorem Lin.base_put (l : Lin) (p : Place) (x : TxSlot) : (l.put p x).base = l.base := rfl
@[simp] theorem Lin.base_ages (l : Lin) (n : Nat) : { l with ages := n }.base = l.base := rfl
@[simp] theorem Lin.base_attempt (l : Lin) (a : Option Place) : { l with attempt := a }.base = l.base := rfl
@[simp] theorem Lin.base_enter (l : Lin) (p : Place) (r : TxRequest) : (l.enter p r).base = l.base := rfl
@[simp] theorem Lin.base_putSuccessor (l : Lin) (p : Place) (r : TxRequest) :
    (l.putSuccessor p r).base = l.base := rfl
@[simp] theorem Lin.base_request (l : Lin) (p : Place) (r : TxRequest) :
    (l.request p r).base = l.base := by
  simp only [Lin.request]
  repeat' split
  all_goals simp
@[simp] theorem Lin.base_leaveClaim (l : Lin) (c : Chan) : (l.leaveClaim c).base = l.base := by
  simp only [Lin.leaveClaim]; split <;> rfl
@[simp] theorem Lin.base_dropRenewal (l : Lin) (c : Chan) (k : Option Byte) :
    (l.dropRenewal c k).base = l.base := by
  simp only [Lin.dropRenewal]
  repeat' split
  all_goals simp
@[simp] theorem Lin.base_enterRelease (l : Lin) (c : Chan) (r : TxRequest) :
    (l.enterRelease c r).base = l.base := by
  simp only [Lin.enterRelease]; split <;> simp
@[simp] theorem Lin.base_requestRelease (l : Lin) (c : Chan) (r : TxRequest) :
    (l.requestRelease c r).base = l.base := by
  simp only [Lin.requestRelease]
  repeat' split
  all_goals simp
@[simp] theorem State.base_queue (s : State) (p : Place) (r : TxRequest) : (s.queue p r).base = s.base := by
  unfold State.queue; split
  · rfl
  · exact State.base_setLin _ _ (by simp)
@[simp] theorem State.base_queueRelease (s : State) (c : Chan) (r : TxRequest) :
    (s.queueRelease c r).base = s.base := by
  unfold State.queueRelease; split
  · rfl
  · exact State.base_setLin _ _ (by simp)
@[simp] theorem State.base_requestReport (s : State) : s.requestReport.base = s.base := by
  unfold State.requestReport; split <;> simp

/-! ### The Run Slot Unit -/

@[simp] theorem State.base_queueClaim (s : State) (c : Chan) (k : Nat) (v : ClaimVals) (b : Bool) :
    (s.queueClaim c k v b).base = s.base := by simp [State.queueClaim]
@[simp] theorem State.base_sendRelease (s : State) (c : Chan) (k : Nat) (o : ReleaseOutcome) :
    (s.sendRelease c k o).base = s.base := by simp [State.sendRelease]
@[simp] theorem State.base_makeClaim (s : State) (c : Chan) : (s.makeClaim c).base = s.base := by
  simp [State.makeClaim]
@[simp] theorem State.base_claimIfDue (s : State) (c : Chan) : (s.claimIfDue c).base = s.base := by
  unfold State.claimIfDue; split <;> simp
@[simp] theorem State.base_updateClaim (s : State) (c : Chan) (v : ClaimVals) :
    (s.updateClaim c v).base = s.base := by
  simp only [State.updateClaim]; split <;> simp
@[simp] theorem State.base_withdrawClaim (s : State) (c : Chan) : (s.withdrawClaim c).base = s.base := by
  simp only [State.withdrawClaim]; split <;> simp
@[simp] theorem State.base_renewClaim (s : State) (c : Chan) (v : ClaimVals) :
    (s.renewClaim c v).base = s.base := by
  simp only [State.renewClaim]
  split
  · split <;> simp
  all_goals simp
@[simp] theorem State.base_releaseHeld (s : State) (c : Chan) (o : ReleaseOutcome) :
    (s.releaseHeld c o).base = s.base := by
  simp only [State.releaseHeld]; split <;> simp
@[simp] theorem State.base_releaseSlot (s : State) (c : Chan) (e : EndCause) :
    (s.releaseSlot c e).base = s.base := by
  simp only [State.releaseSlot, State.base_setClaim]; split <;> simp

/-! ### The Drive Channels -/

@[simp] theorem State.base_toIdle (s : State) (c : Chan) : (s.toIdle c).1.base = s.base := by
  simp [State.toIdle]
@[simp] theorem State.base_endRun (s : State) (c : Chan) (h : Heading) :
    (s.endRun c h).1.base = s.base := by
  cases h <;> simp only [State.endRun] <;> (try split) <;> simp
@[simp] theorem State.base_startMovement (s : State) (c : Chan) (j : Job) (p : Option Part) (w : Bool) :
    (s.startMovement c j p w).1.base = s.base := by
  simp only [State.startMovement]
  repeat' split
  all_goals simp
@[simp] theorem State.base_askRun (s : State) (c : Chan) (j : Job) (k : Class) :
    (s.askRun c j k).1.base = s.base := by
  simp only [State.askRun]; split <;> simp
@[simp] theorem State.base_decideRun (s : State) (c : Chan) : (s.decideRun c).1.base = s.base := by
  simp only [State.decideRun]
  repeat' split
  all_goals simp
@[simp] theorem State.base_leaveWait (s : State) (c : Chan) : (s.leaveWait c).1.base = s.base := by
  simp [State.leaveWait]
@[simp] theorem State.base_renewFor (s : State) (c : Chan) (j : Job) (k : Class) :
    (s.renewFor c j k).base = s.base := by simp [State.renewFor]
@[simp] theorem State.base_checkStop (s : State) (c : Chan) : (s.checkStop c).base = s.base := by
  simp only [State.checkStop]; split <;> simp
@[simp] theorem State.base_retarget (s : State) (c : Chan) (j : Job) (k : Class) :
    (s.retarget c j k).base = s.base := by
  simp only [State.retarget, State.base_checkStop]; split <;> simp
@[simp] theorem State.base_handOverWaiting (s : State) (c : Chan) (h : Option Standing) :
    (s.handOverWaiting c h).1.base = s.base := by
  simp only [State.handOverWaiting]
  repeat' split
  all_goals simp
@[simp] theorem State.base_handOverDriving (s : State) (c : Chan) (h : Option Standing) :
    (s.handOverDriving c h).1.base = s.base := by
  simp only [State.handOverDriving]
  repeat' split
  all_goals simp
@[simp] theorem State.base_handOverPausing (s : State) (c : Chan) (h : Option Standing) :
    (s.handOverPausing c h).1.base = s.base := by
  simp only [State.handOverPausing]
  repeat' split
  all_goals simp
@[simp] theorem State.base_handOver (s : State) (c : Chan) (h : Option Standing) :
    (s.handOver c h).1.base = s.base := by
  simp only [State.handOver]; split <;> simp
/-- All that a hand-over to a stopped channel can do: end its dwell, be stored, or act as any hand-over. -/
theorem State.handOverStopped_cases (s : State) (c : Chan) (h : Option Standing) :
    ((s.chan c).runState = .dwell ∧ s.handOverStopped c h
      = (s.setChan c { s.chan c with standing := h }).endRun c .stopped) ∨
    (((s.chan c).runState = .dwell ∨ (s.chan c).runState = .coasting ∨ s.waitsToOpen c = true) ∧
      s.handOverStopped c h = (s.setChan c { s.chan c with standing := h }, [])) ∨
    ((s.chan c).runState ≠ .dwell ∧ (s.chan c).runState ≠ .coasting ∧ s.waitsToOpen c = false ∧
      s.handOverStopped c h = s.handOver c h) := by
  simp only [State.handOverStopped]
  split
  · next hd => exact .inl ⟨hd.1, rfl⟩
  · split
    · next hs => exact .inr (.inl ⟨hs, rfl⟩)
    · next hn =>
      obtain ⟨h1, h2, h3⟩ : _ ∧ _ ∧ _ := by simpa only [not_or] using hn
      exact .inr (.inr ⟨h1, h2, by simpa using h3, rfl⟩)
@[simp] theorem State.base_handOverStopped (s : State) (c : Chan) (h : Option Standing) :
    (s.handOverStopped c h).1.base = s.base := by
  obtain ⟨-, e⟩ | ⟨-, e⟩ | ⟨-, -, -, e⟩ := s.handOverStopped_cases c h <;> simp [e]
@[simp] theorem State.base_barred (s : State) (c : Chan) : (s.barred c).1.base = s.base := by
  simp only [State.barred]; split <;> simp
@[simp] theorem State.base_granted (s : State) (c : Chan) : (s.granted c).1.base = s.base := by
  simp only [State.granted]
  repeat' split
  all_goals simp

/-! ### The Request Table -/

@[simp] theorem State.base_writeEntry (s : State) (c : Chan) (o : Origin) (a : Action) (k : Class)
    (e : Option Nat) : (s.writeEntry c o a k e).base = s.base := rfl
@[simp] theorem State.base_removeEntry (s : State) (c : Chan) (o : Origin) :
    (s.removeEntry c o).base = s.base := rfl
@[simp] theorem State.base_select (s : State) (c : Chan) (l : List Origin) :
    (s.select c l).1.base = s.base := by
  simp only [State.select]; split <;> rfl
@[simp] theorem State.base_markEffective (s : State) (c : Chan) : (s.markEffective c).base = s.base := rfl
@[simp] theorem State.base_selectStored (s : State) (c : Chan) (l : List Origin) :
    (s.selectStored c l).1.base = s.base := by
  simp only [State.selectStored]; split <;> simp
@[simp] theorem State.base_takeReport (s : State) (c : Chan) : (s.takeReport c).1.base = s.base := by
  simp only [State.takeReport]
  repeat' split
  all_goals simp
@[simp] theorem State.base_post (s : State) (c : Chan) (w n : Level) : (s.post c w n).base = s.base := by
  cases n <;> simp only [State.post] <;> (try split) <;> simp
@[simp] theorem State.base_hearHeld (s : State) (c : Chan) (w : Level) :
    (s.hearHeld c w).1.base = s.base := by
  simp only [State.hearHeld]
  repeat' split
  all_goals simp
@[simp] theorem State.base_heldChanged (s : State) (c : Chan) (w : Level) (b : Bool) :
    (s.heldChanged c w b).1.base = s.base := by simp [State.heldChanged]
@[simp] theorem State.base_writeOther (s : State) (c : Chan) (o : Origin) (a : Action) (k : Class)
    (e : Option Nat) : (s.writeOther c o a k e).1.base = s.base := rfl
@[simp] theorem State.base_writeOpen (s : State) (c : Chan) (o : Origin) (k : Class) (p : Nat) :
    (s.writeOpen c o k p).1.base = s.base := by
  simp only [State.writeOpen]; split <;> rfl

/-! ### The cascade -/

@[simp] theorem State.base_takeWish (s : State) (c : Chan) : (s.takeWish c).1.base = s.base := by
  simp only [State.takeWish]; split <;> simp
@[simp] theorem State.base_grantLocal (s : State) : s.grantLocal.1.base = s.base := by
  simp only [State.grantLocal]; split <;> simp

/-- A signal changes nothing that `State.base` keeps. -/
@[simp] theorem State.base_handle (s : State) (x : Signal) : (s.handle x).1.base = s.base := by
  cases x <;> simp [State.handle]

/-- What every signal keeps, the working off of a list of signals keeps. -/
theorem drain_keeps {P : State → Prop} (h : ∀ s x, P s → P (s.handle x).1) :
    ∀ (n : Nat) (l : List Signal) (s : State), P s → P (drain n l s)
  | 0, _, _, hs => hs
  | _ + 1, [], _, hs => hs
  | n + 1, x :: _, s, hs => drain_keeps h n _ _ (h s x hs)

/-- What every signal of a kind keeps, when such signals raise only such signals. -/
theorem drain_keeps_of {P : State → Prop} {Q : Signal → Prop}
    (hP : ∀ s x, P s → Q x → P (s.handle x).1)
    (hQ : ∀ s x, P s → Q x → ∀ y ∈ (s.handle x).2, Q y) :
    ∀ (n : Nat) (l : List Signal) (s : State), (∀ x ∈ l, Q x) → P s → P (drain n l s)
  | 0, _, _, _, hs => hs
  | _ + 1, [], _, _, hs => hs
  | n + 1, x :: rest, s, hl, hs => by
    have hx := hl x (List.mem_cons_self ..)
    refine drain_keeps_of hP hQ n _ _ ?_ (hP s x hs hx)
    intro y hy
    rcases List.mem_append.mp hy with h | h
    · exact hQ s x hs hx y h
    · exact hl y (List.mem_cons_of_mem _ h)

@[simp] theorem drain_base (n : Nat) (l : List Signal) (s : State) : (drain n l s).base = s.base :=
  drain_keeps (P := fun t => t.base = s.base) (fun t x h => (State.base_handle t x).trans h) n l s rfl

/-- A command's end changes nothing that `State.base` keeps. -/
@[simp] theorem finished_base (e : Eff) : (finished e).base = e.1.base := by
  simp [finished]

@[simp] theorem drain_nil (n : Nat) (s : State) : drain n [] s = s := by cases n <;> rfl

/-- A command that raises no signal ends with its own state, the status output at its level. -/
@[simp] theorem finished_quiet (s : State) : finished (s, []) = s.settle := by simp [finished]

@[simp] theorem Eff.andThen_fst (e : Eff) (f : State → Eff) : (e.andThen f).1 = (f e.1).1 := rfl

@[simp] theorem Eff.andThen_snd (e : Eff) (f : State → Eff) : (e.andThen f).2 = e.2 ++ (f e.1).2 := rfl

/-- What a command keeps up to its signals and what every signal keeps, the command keeps. -/
theorem finished_keeps {P : State → Prop} (hsettle : ∀ s, P s → P s.settle)
    (h : ∀ s x, P s → P (s.handle x).1) (e : Eff) (he : P e.1) : P (finished e) :=
  hsettle _ (drain_keeps h _ _ _ he)

end Sys2Proof.Machine
end

