-- ==== Sys2Proof/Laws/Cascade.lean ====
section
/-! SUPPORT. What the signals of a cascade may touch: which conditions of the node they leave, that only a
change of a held level writes an entry, that a signal to one channel leaves the other channel alone, and
that a channel at rest or coasting stays there. -/

namespace Sys2Proof.Machine

open Sys2Proof

/-! ### Conditions that equal bases share -/

theorem State.base_config {s t : State} (h : s.base = t.base) : s.config = t.config :=
  ((State.base_eq_iff s t).mp h).2.2.2.2.2.1
theorem State.base_now {s t : State} (h : s.base = t.base) : s.now = t.now :=
  ((State.base_eq_iff s t).mp h).2.1
theorem State.base_pending {s t : State} (h : s.base = t.base) : s.pending = t.pending :=
  ((State.base_eq_iff s t).mp h).1
theorem State.base_phase {s t : State} (h : s.base = t.base) : s.phase = t.phase :=
  ((State.base_eq_iff s t).mp h).2.2.2.1
theorem State.base_straps {s t : State} (h : s.base = t.base) : s.straps = t.straps :=
  ((State.base_eq_iff s t).mp h).2.2.2.2.1
theorem State.base_pins {s t : State} (h : s.base = t.base) : s.pins = t.pins := by
  have := (State.base_eq_iff s t).mp h; tauto
theorem State.base_thr {s t : State} (h : s.base = t.base) : s.thr = t.thr := by
  have := (State.base_eq_iff s t).mp h; tauto
theorem State.base_wxi {s t : State} (h : s.base = t.base) : s.wxi = t.wxi := by
  have := (State.base_eq_iff s t).mp h; tauto
theorem State.base_src {s t : State} (h : s.base = t.base) : s.src = t.src := by
  have := (State.base_eq_iff s t).mp h; tauto
theorem State.base_supply {s t : State} (h : s.base = t.base) : s.supply = t.supply := by
  have := (State.base_eq_iff s t).mp h; tauto
theorem State.base_lin {s t : State} (h : s.base = t.base) : s.lin.base = t.lin.base := by
  have := (State.base_eq_iff s t).mp h; tauto
theorem State.base_rsu {s t : State} (h : s.base = t.base) : s.rsu.base = t.rsu.base := by
  have := (State.base_eq_iff s t).mp h; tauto

theorem State.base_present {s t : State} (h : s.base = t.base) (c : Chan) : s.present c = t.present c := by
  simp [State.present, State.driveActive, State.loaded, State.role, State.base_config h,
    State.base_phase h, State.base_straps h]
theorem State.base_loaded {s t : State} (h : s.base = t.base) : s.loaded = t.loaded := by
  simp [State.loaded, State.base_phase h]
theorem State.base_setting {s t : State} (h : s.base = t.base) (c : Chan) :
    s.setting c = t.setting c := by simp [State.setting, State.base_config h]
theorem State.base_pin {s t : State} (h : s.base = t.base) (c : Chan) : s.pin c = t.pin c := by
  simp [State.pin, State.base_pins h]
theorem State.base_held {s t : State} (h : s.base = t.base) (c : Chan) : s.held c = t.held c := by
  simp [State.held, State.base_thr h]
theorem State.base_isolated {s t : State} (h : s.base = t.base) : s.isolated = t.isolated := by
  have hl := (Lin.base_eq_iff _ _).mp (State.base_lin h)
  simp [State.isolated, State.lineIsolated, State.validAddress, hl.2.2.2.1, hl.2.2.2.2.1,
    hl.2.2.2.2.2.1, State.base_config h, State.base_straps h]

/-! ### One channel at a time -/

/-- The channel a signal is for; the LOCAL slot is the node's. -/
def Signal.chan : Signal → Option Chan
  | .report c => some c
  | .select c _ => some c
  | .selectStored c _ => some c
  | .handOver c _ => some c
  | .decide c => some c
  | .wish c => some c
  | .localSlot => none
  | .granted c => some c
  | .barred c => some c

/-- What belongs to one channel and to nothing else: its record, its claim, its request table, its selection
and the places of its claim in the transmit queue. -/
def State.own (s : State) (c : Chan) : Channel × ClaimRecord × Option Origin × TxSlot × TxSlot :=
  (s.chan c, s.claim c, s.req.effective.get c, s.lin.queue.get (.claim c), s.lin.queue.get (.release c))

theorem chan_other {c d : Chan} (h : c ≠ d) : c = chanOther d := by
  cases c <;> cases d <;> simp_all [chanOther]

/-- The places of a channel in the transmit queue. -/
def Place.isOf (p : Place) (c : Chan) : Prop := p = .claim c ∨ p = .release c

@[simp] theorem TxQueue.get_put_same (q : TxQueue) (p : Place) (x : TxSlot) : (q.put p x).get p = x := by
  cases p <;> simp [TxQueue.get, TxQueue.put]

theorem TxQueue.get_put_other (q : TxQueue) {p r : Place} (x : TxSlot) (h : r ≠ p) :
    (q.put p x).get r = q.get r := by
  cases p <;> cases r <;> simp_all [TxQueue.get, TxQueue.put, Pair.get_set]

theorem Lin.put_queue (l : Lin) (p : Place) (x : TxSlot) : (l.put p x).queue = l.queue.put p x := rfl

theorem Lin.get_put_other (l : Lin) {p r : Place} (x : TxSlot) (h : r ≠ p) :
    (l.put p x).queue.get r = l.queue.get r := TxQueue.get_put_other _ _ h

theorem Lin.enter_other (l : Lin) {p r : Place} (x : TxRequest) (h : r ≠ p) :
    (l.enter p x).queue.get r = l.queue.get r := Lin.get_put_other l _ h
theorem Lin.putSuccessor_other (l : Lin) {p r : Place} (x : TxRequest) (h : r ≠ p) :
    (l.putSuccessor p x).queue.get r = l.queue.get r := Lin.get_put_other l _ h
/-- A request for one place leaves every other place. -/
theorem Lin.request_other (l : Lin) {p r : Place} (x : TxRequest) (h : r ≠ p) :
    (l.request p x).queue.get r = l.queue.get r := by
  simp only [Lin.request]
  split
  · exact Lin.enter_other l _ h
  · split
    · exact Lin.putSuccessor_other l _ h
    · exact Lin.get_put_other l _ h
theorem Lin.leaveClaim_other (l : Lin) (c : Chan) {r : Place} (h : r ≠ .claim c) :
    (l.leaveClaim c).queue.get r = l.queue.get r := by
  simp only [Lin.leaveClaim]
  split
  · exact Lin.get_put_other l _ h
  · exact (Lin.enter_other _ _ h).trans (Lin.get_put_other l _ h)
theorem Lin.dropRenewal_other (l : Lin) (c : Chan) (k : Option Byte) {r : Place} (h : r ≠ .claim c) :
    (l.dropRenewal c k).queue.get r = l.queue.get r := by
  simp only [Lin.dropRenewal]
  split
  · rfl
  · split
    · exact Lin.get_put_other l _ h
    · rfl
theorem Lin.enterRelease_other (l : Lin) (c : Chan) (x : TxRequest) {r : Place} (h : r ≠ .release c) :
    (l.enterRelease c x).queue.get r = l.queue.get r := by
  simp only [Lin.enterRelease]
  split
  · exact Lin.enter_other l _ h
  · exact Lin.putSuccessor_other l _ h
/-- A request to queue a RELEASE touches the two places of its channel alone. -/
theorem Lin.requestRelease_other (l : Lin) (c : Chan) (x : TxRequest) {r : Place}
    (h : r ≠ .claim c) (h' : r ≠ .release c) :
    (l.requestRelease c x).queue.get r = l.queue.get r := by
  have hd := Lin.dropRenewal_other l c (releaseToken x.content) h
  simp only [Lin.requestRelease]
  split
  · exact (Lin.enterRelease_other _ c x h').trans hd
  · split
    · exact (Lin.enterRelease_other _ c x h').trans hd
    · split
      · exact (Lin.enterRelease_other _ c x h').trans hd
      · split
        · exact (Lin.enterRelease_other _ c x h').trans ((Lin.leaveClaim_other _ c h).trans hd)
        · exact (Lin.leaveClaim_other _ c h).trans hd

@[simp] theorem State.own_setChan (s : State) {c d : Chan} (h : c ≠ d) (x : Channel) :
    (s.setChan d x).own c = s.own c := by
  simp [State.own, State.setChan, State.chan, State.claim, Pair.get_set, h]
@[simp] theorem State.own_setClaim (s : State) {c d : Chan} (h : c ≠ d) (x : ClaimRecord) :
    (s.setClaim d x).own c = s.own c := by
  simp [State.own, State.setClaim, State.chan, State.claim, Pair.get_set, h]
@[simp] theorem State.own_setTable (s : State) (c d : Chan) (x : ReqTable) :
    (s.setTable d x).own c = s.own c := rfl
@[simp] theorem State.own_setToken (s : State) (c : Chan) (k : Nat) : (s.setToken k).own c = s.own c := rfl
theorem State.own_setLin (s : State) (c : Chan) (l : Lin)
    (h : l.queue.get (.claim c) = s.lin.queue.get (.claim c))
    (h' : l.queue.get (.release c) = s.lin.queue.get (.release c)) : (s.setLin l).own c = s.own c := by
  simp [State.own, State.setLin, State.chan, State.claim, h, h']
theorem State.own_queue (s : State) (c : Chan) {p : Place} (x : TxRequest) (h : Place.claim c ≠ p)
    (h' : Place.release c ≠ p) : (s.queue p x).own c = s.own c := by
  unfold State.queue
  split
  · rfl
  · exact State.own_setLin _ _ _ (Lin.request_other _ _ h) (Lin.request_other _ _ h')
@[simp] theorem State.own_queueRelease (s : State) {c d : Chan} (h : c ≠ d) (x : TxRequest) :
    (s.queueRelease d x).own c = s.own c := by
  unfold State.queueRelease
  split
  · rfl
  · exact State.own_setLin _ _ _ (Lin.requestRelease_other _ _ _ (by simpa using h) (by simp))
      (Lin.requestRelease_other _ _ _ (by simp) (by simpa using h))
@[simp] theorem State.own_requestReport (s : State) (c : Chan) : s.requestReport.own c = s.own c := by
  unfold State.requestReport
  split
  · exact State.own_queue _ _ _ (by simp) (by simp)
  · rfl
@[simp] theorem State.own_queueClaim (s : State) {c d : Chan} (h : c ≠ d) (k : Nat) (v : ClaimVals)
    (b : Bool) : (s.queueClaim d k v b).own c = s.own c :=
  State.own_queue _ _ _ (by simpa using h) (by simp)
@[simp] theorem State.own_sendRelease (s : State) {c d : Chan} (h : c ≠ d) (k : Nat)
    (o : ReleaseOutcome) : (s.sendRelease d k o).own c = s.own c := by simp [State.sendRelease, h]
@[simp] theorem State.own_makeClaim (s : State) {c d : Chan} (h : c ≠ d) :
    (s.makeClaim d).own c = s.own c := by simp [State.makeClaim, h]
@[simp] theorem State.own_claimIfDue (s : State) {c d : Chan} (h : c ≠ d) :
    (s.claimIfDue d).own c = s.own c := by unfold State.claimIfDue; split <;> simp [h]
@[simp] theorem State.own_updateClaim (s : State) {c d : Chan} (h : c ≠ d) (v : ClaimVals) :
    (s.updateClaim d v).own c = s.own c := by simp only [State.updateClaim]; split <;> simp [h]
@[simp] theorem State.own_withdrawClaim (s : State) {c d : Chan} (h : c ≠ d) :
    (s.withdrawClaim d).own c = s.own c := by simp only [State.withdrawClaim]; split <;> simp [h]
@[simp] theorem State.own_renewClaim (s : State) {c d : Chan} (h : c ≠ d) (v : ClaimVals) :
    (s.renewClaim d v).own c = s.own c := by
  simp only [State.renewClaim]
  split
  · split <;> simp [h]
  all_goals simp [h]
@[simp] theorem State.own_releaseHeld (s : State) {c d : Chan} (h : c ≠ d) (o : ReleaseOutcome) :
    (s.releaseHeld d o).own c = s.own c := by simp only [State.releaseHeld]; split <;> simp [h]
@[simp] theorem State.own_releaseSlot (s : State) {c d : Chan} (h : c ≠ d) (e : EndCause) :
    (s.releaseSlot d e).own c = s.own c := by
  simp only [State.releaseSlot, State.own_setClaim _ h]; split <;> simp [h]
@[simp] theorem State.own_toIdle (s : State) {c d : Chan} (h : c ≠ d) : (s.toIdle d).1.own c = s.own c := by
  simp [State.toIdle, h]
@[simp] theorem State.own_endRun (s : State) {c d : Chan} (h : c ≠ d) (x : Heading) :
    (s.endRun d x).1.own c = s.own c := by
  cases x <;> simp only [State.endRun] <;> (try split) <;> simp [h]
@[simp] theorem State.own_startMovement (s : State) {c d : Chan} (h : c ≠ d) (j : Job) (p : Option Part)
    (w : Bool) : (s.startMovement d j p w).1.own c = s.own c := by
  simp only [State.startMovement]
  repeat' split
  all_goals simp [h]
@[simp] theorem State.own_askRun (s : State) {c d : Chan} (h : c ≠ d) (j : Job) (k : Class) :
    (s.askRun d j k).1.own c = s.own c := by simp only [State.askRun]; split <;> simp [h]
@[simp] theorem State.own_decideRun (s : State) {c d : Chan} (h : c ≠ d) :
    (s.decideRun d).1.own c = s.own c := by
  simp only [State.decideRun]
  repeat' split
  all_goals simp [h]
@[simp] theorem State.own_leaveWait (s : State) {c d : Chan} (h : c ≠ d) :
    (s.leaveWait d).1.own c = s.own c := by simp [State.leaveWait, h]
@[simp] theorem State.own_renewFor (s : State) {c d : Chan} (h : c ≠ d) (j : Job) (k : Class) :
    (s.renewFor d j k).own c = s.own c := by simp [State.renewFor, h]
@[simp] theorem State.own_checkStop (s : State) {c d : Chan} (h : c ≠ d) :
    (s.checkStop d).own c = s.own c := by simp only [State.checkStop]; split <;> simp [h]
@[simp] theorem State.own_retarget (s : State) {c d : Chan} (h : c ≠ d) (j : Job) (k : Class) :
    (s.retarget d j k).own c = s.own c := by
  simp only [State.retarget, State.own_checkStop _ h]; split <;> simp [h]
@[simp] theorem State.own_handOverWaiting (s : State) {c d : Chan} (h : c ≠ d) (x : Option Standing) :
    (s.handOverWaiting d x).1.own c = s.own c := by
  simp only [State.handOverWaiting]
  repeat' split
  all_goals simp [h]
@[simp] theorem State.own_handOverDriving (s : State) {c d : Chan} (h : c ≠ d) (x : Option Standing) :
    (s.handOverDriving d x).1.own c = s.own c := by
  simp only [State.handOverDriving]
  repeat' split
  all_goals simp [h]
@[simp] theorem State.own_handOverPausing (s : State) {c d : Chan} (h : c ≠ d) (x : Option Standing) :
    (s.handOverPausing d x).1.own c = s.own c := by
  simp only [State.handOverPausing]
  repeat' split
  all_goals simp [h]
@[simp] theorem State.own_handOver (s : State) {c d : Chan} (h : c ≠ d) (x : Option Standing) :
    (s.handOver d x).1.own c = s.own c := by simp only [State.handOver]; split <;> simp [h]
@[simp] theorem State.own_handOverStopped (s : State) {c d : Chan} (h : c ≠ d) (x : Option Standing) :
    (s.handOverStopped d x).1.own c = s.own c := by
  obtain ⟨-, e⟩ | ⟨-, e⟩ | ⟨-, -, -, e⟩ := s.handOverStopped_cases d x <;> simp [e, h]
@[simp] theorem State.own_barred (s : State) {c d : Chan} (h : c ≠ d) :
    (s.barred d).1.own c = s.own c := by simp only [State.barred]; split <;> simp [h]
@[simp] theorem State.own_granted (s : State) {c d : Chan} (h : c ≠ d) :
    (s.granted d).1.own c = s.own c := by
  simp only [State.granted]
  repeat' split
  all_goals simp [h]
@[simp] theorem State.own_markEffective (s : State) {c d : Chan} (h : c ≠ d) :
    (s.markEffective d).own c = s.own c := by
  simp [State.markEffective, State.own, State.chan, State.claim, Pair.get_set, h]
@[simp] theorem State.own_select (s : State) {c d : Chan} (h : c ≠ d) (l : List Origin) :
    (s.select d l).1.own c = s.own c := by simp only [State.select]; split <;> simp [h]
@[simp] theorem State.own_selectStored (s : State) {c d : Chan} (h : c ≠ d) (l : List Origin) :
    (s.selectStored d l).1.own c = s.own c := by simp only [State.selectStored]; split <;> simp [h]
@[simp] theorem State.own_takeReport (s : State) {c d : Chan} (_h : c ≠ d) :
    (s.takeReport d).1.own c = s.own c := by
  simp only [State.takeReport]
  repeat' split
  all_goals rfl
@[simp] theorem State.own_post (s : State) (c d : Chan) (w n : Level) : (s.post d w n).own c = s.own c := by
  have key : ∀ o a k e, (s.writeEntry d o a k e).own c = s.own c := by
    intro o a k e
    simp only [State.own, State.writeEntry, State.chan, State.claim]
    by_cases h : s.req.arrival < 65535 <;> simp [h, Req.renumber]
  cases n <;> simp only [State.post] <;> (try split) <;> simp [key, State.removeEntry]
@[simp] theorem State.own_hearHeld (s : State) (c d : Chan) (w : Level) :
    (s.hearHeld d w).1.own c = s.own c := by
  simp only [State.hearHeld]
  repeat' split
  all_goals simp
@[simp] theorem State.own_heldChanged (s : State) (c d : Chan) (w : Level) (b : Bool) :
    (s.heldChanged d w b).1.own c = s.own c := by simp [State.heldChanged]
@[simp] theorem State.own_takeWish (s : State) {c d : Chan} (h : c ≠ d) :
    (s.takeWish d).1.own c = s.own c := by simp only [State.takeWish]; split <;> simp [h]

/-- The LOCAL slot changes no Drive Channel record by itself. -/
@[simp] theorem State.chan_grantLocal (s : State) (c : Chan) : s.grantLocal.1.chan c = s.chan c := by
  simp only [State.grantLocal]; split <;> rfl

/-- Outside isolated operation no LOCAL slot is granted (R141). -/
theorem State.grantLocal_idle (s : State) (h : s.isolated = false) : s.grantLocal = (s, []) := by
  simp [State.grantLocal, State.localGrantee, h]

/-- A signal to one channel leaves what belongs to the other. -/
theorem State.own_handle (s : State) (x : Signal) (c : Chan) (h : x.chan ≠ some c) (hl : x ≠ .localSlot) :
    (s.handle x).1.own c = s.own c := by
  have key : ∀ d : Chan, some d ≠ some c → c ≠ d := by
    intro d hd e; exact hd (by rw [e])
  cases x <;> simp only [Signal.chan] at h <;> simp only [State.handle]
  case localSlot => exact absurd rfl hl
  all_goals simp [key _ h]

/-- A signal that is not for a channel leaves that channel's record. -/
theorem State.chan_handle_other (s : State) (x : Signal) (c : Chan) (h : x.chan ≠ some c) :
    (s.handle x).1.chan c = s.chan c := by
  by_cases hl : x = .localSlot
  · subst hl; simp [State.handle]
  · exact congrArg Prod.fst (State.own_handle s x c h hl)

/-! ### What signals raise -/

/-- Every signal of a list is for one channel or for the LOCAL slot. -/
def OnlyFor (c : Chan) (l : List Signal) : Prop :=
  ∀ y ∈ l, y.chan = some c ∨ y = .localSlot

theorem OnlyFor.nil (c : Chan) : OnlyFor c [] := by simp [OnlyFor]
theorem OnlyFor.toIdle (s : State) (c : Chan) : OnlyFor c (s.toIdle c).2 := by
  simp [OnlyFor, State.toIdle, Signal.chan]
theorem OnlyFor.endRun (s : State) (c : Chan) (h : Heading) : OnlyFor c (s.endRun c h).2 := by
  cases h <;> simp only [State.endRun] <;> (try split) <;>
    simp [OnlyFor, State.toIdle, Signal.chan]
theorem OnlyFor.startMovement (s : State) (c : Chan) (j : Job) (p : Option Part) (w : Bool) :
    OnlyFor c (s.startMovement c j p w).2 := by
  simp only [State.startMovement]
  repeat' split
  all_goals first | exact OnlyFor.endRun _ _ _ | exact OnlyFor.nil c
theorem OnlyFor.askRun (s : State) (c : Chan) (j : Job) (k : Class) : OnlyFor c (s.askRun c j k).2 := by
  simp only [State.askRun]; split <;> simp [OnlyFor, Signal.chan]
theorem OnlyFor.decideRun (s : State) (c : Chan) : OnlyFor c (s.decideRun c).2 := by
  simp only [State.decideRun]
  repeat' split
  all_goals first
    | exact OnlyFor.askRun _ _ _ _
    | exact OnlyFor.nil c
    | simp [OnlyFor, Signal.chan]
theorem OnlyFor.leaveWait (s : State) (c : Chan) : OnlyFor c (s.leaveWait c).2 := OnlyFor.toIdle _ c
theorem OnlyFor.handOver (s : State) (c : Chan) (h : Option Standing) :
    OnlyFor c (s.handOver c h).2 := by
  simp only [State.handOver, State.handOverWaiting, State.handOverDriving, State.handOverPausing]
  repeat' split
  all_goals first
    | exact OnlyFor.leaveWait _ _
    | exact OnlyFor.endRun _ _ _
    | exact OnlyFor.nil c
    | simp [OnlyFor, Signal.chan]
theorem OnlyFor.handOverStopped (s : State) (c : Chan) (h : Option Standing) :
    OnlyFor c (s.handOverStopped c h).2 := by
  obtain ⟨-, e⟩ | ⟨-, e⟩ | ⟨-, -, -, e⟩ := s.handOverStopped_cases c h <;> rw [e]
  · exact OnlyFor.endRun _ _ _
  · exact OnlyFor.nil c
  · exact OnlyFor.handOver s c h
theorem OnlyFor.barred (s : State) (c : Chan) : OnlyFor c (s.barred c).2 := by
  simp only [State.barred]
  split
  · exact OnlyFor.leaveWait _ _
  · exact OnlyFor.nil c
theorem OnlyFor.granted (s : State) (c : Chan) : OnlyFor c (s.granted c).2 := by
  simp only [State.granted]
  repeat' split
  all_goals first
    | exact OnlyFor.startMovement _ _ _ _ _
    | exact OnlyFor.nil c
theorem OnlyFor.takeReport (s : State) (c : Chan) : OnlyFor c (s.takeReport c).2 := by
  simp only [State.takeReport]
  repeat' split
  all_goals simp [OnlyFor, Signal.chan]
theorem OnlyFor.select (s : State) (c : Chan) (l : List Origin) : OnlyFor c (s.select c l).2 := by
  simp only [State.select]; split <;> simp [OnlyFor, Signal.chan]
theorem OnlyFor.selectStored (s : State) (c : Chan) (l : List Origin) :
    OnlyFor c (s.selectStored c l).2 := by
  simp only [State.selectStored]
  split
  · exact OnlyFor.handOverStopped _ _ _
  · exact OnlyFor.nil c
theorem OnlyFor.heldChanged (s : State) (c : Chan) (w : Level) (b : Bool) :
    OnlyFor c (s.heldChanged c w b).2 := by
  simp only [State.heldChanged, heldSignals]
  repeat' split
  all_goals simp [OnlyFor, Signal.chan]
theorem OnlyFor.takeWish (s : State) (c : Chan) : OnlyFor c (s.takeWish c).2 := by
  simp only [State.takeWish]; split <;> simp [OnlyFor, Signal.chan]

/-- A signal to a channel raises signals for that channel and for the LOCAL slot alone. -/
theorem State.handle_raises (s : State) (x : Signal) (c : Chan) (h : x.chan = some c) :
    OnlyFor c (s.handle x).2 := by
  cases x <;> simp only [Signal.chan, Option.some.injEq, reduceCtorEq] at h <;> (try subst h) <;>
    simp only [State.handle]
  case report => exact OnlyFor.takeReport s _
  case select => exact OnlyFor.select s _ _
  case handOver => exact OnlyFor.handOver s _ _
  case decide => exact OnlyFor.decideRun s _
  case wish => exact OnlyFor.takeWish s _
  case granted => exact OnlyFor.granted s _
  case selectStored => exact OnlyFor.selectStored s _ _
  case barred => exact OnlyFor.barred s _

/-- The LOCAL slot raises a grant or nothing. -/
theorem State.grantLocal_raises (s : State) : s.grantLocal.2 = [] ∨ ∃ c, s.grantLocal.2 = [.granted c] := by
  simp only [State.grantLocal]
  split
  · exact .inl rfl
  · exact .inr ⟨_, rfl⟩

/-! ### Entries of the request tables -/

/-- The request tables apart from the SERVICE entries, with the arrival counter. -/
def State.entries (s : State) :
    (Option Entry × Option Entry × Option Entry) × (Option Entry × Option Entry × Option Entry) × Nat :=
  (((s.table .c0).weather, (s.table .c0).order, (s.table .c0).panel),
    ((s.table .c1).weather, (s.table .c1).order, (s.table .c1).panel), s.req.arrival)

@[simp] theorem State.req_queue (s : State) (p : Place) (r : TxRequest) : (s.queue p r).req = s.req := by
  unfold State.queue; split <;> rfl
@[simp] theorem State.req_queueRelease (s : State) (c : Chan) (r : TxRequest) :
    (s.queueRelease c r).req = s.req := by unfold State.queueRelease; split <;> rfl
@[simp] theorem State.req_requestReport (s : State) : s.requestReport.req = s.req := by
  unfold State.requestReport; split <;> simp
@[simp] theorem State.req_queueClaim (s : State) (c : Chan) (k : Nat) (v : ClaimVals) (b : Bool) :
    (s.queueClaim c k v b).req = s.req := by simp [State.queueClaim]
@[simp] theorem State.req_sendRelease (s : State) (c : Chan) (k : Nat) (o : ReleaseOutcome) :
    (s.sendRelease c k o).req = s.req := by simp [State.sendRelease]
@[simp] theorem State.req_makeClaim (s : State) (c : Chan) : (s.makeClaim c).req = s.req := by
  simp [State.makeClaim]
@[simp] theorem State.req_claimIfDue (s : State) (c : Chan) : (s.claimIfDue c).req = s.req := by
  unfold State.claimIfDue; split <;> simp
@[simp] theorem State.req_updateClaim (s : State) (c : Chan) (v : ClaimVals) :
    (s.updateClaim c v).req = s.req := by simp only [State.updateClaim]; split <;> simp
@[simp] theorem State.req_withdrawClaim (s : State) (c : Chan) : (s.withdrawClaim c).req = s.req := by
  simp only [State.withdrawClaim]; split <;> simp
@[simp] theorem State.req_renewClaim (s : State) (c : Chan) (v : ClaimVals) :
    (s.renewClaim c v).req = s.req := by
  simp only [State.renewClaim]
  split
  · split <;> simp
  all_goals simp
@[simp] theorem State.req_releaseHeld (s : State) (c : Chan) (o : ReleaseOutcome) :
    (s.releaseHeld c o).req = s.req := by simp only [State.releaseHeld]; split <;> simp
@[simp] theorem State.req_releaseSlot (s : State) (c : Chan) (e : EndCause) :
    (s.releaseSlot c e).req = s.req := by
  simp only [State.releaseSlot, State.setClaim_req]; split <;> simp
@[simp] theorem State.req_toIdle (s : State) (c : Chan) : (s.toIdle c).1.req = s.req := by
  simp [State.toIdle]
@[simp] theorem State.req_endRun (s : State) (c : Chan) (h : Heading) : (s.endRun c h).1.req = s.req := by
  cases h <;> simp only [State.endRun] <;> (try split) <;> simp
@[simp] theorem State.req_startMovement (s : State) (c : Chan) (j : Job) (p : Option Part) (w : Bool) :
    (s.startMovement c j p w).1.req = s.req := by
  simp only [State.startMovement]
  repeat' split
  all_goals simp
@[simp] theorem State.req_askRun (s : State) (c : Chan) (j : Job) (k : Class) :
    (s.askRun c j k).1.req = s.req := by simp only [State.askRun]; split <;> simp
@[simp] theorem State.req_decideRun (s : State) (c : Chan) : (s.decideRun c).1.req = s.req := by
  simp only [State.decideRun]
  repeat' split
  all_goals simp
@[simp] theorem State.req_leaveWait (s : State) (c : Chan) : (s.leaveWait c).1.req = s.req := by
  simp [State.leaveWait]
@[simp] theorem State.req_renewFor (s : State) (c : Chan) (j : Job) (k : Class) :
    (s.renewFor c j k).req = s.req := by simp [State.renewFor]
@[simp] theorem State.req_checkStop (s : State) (c : Chan) : (s.checkStop c).req = s.req := by
  simp only [State.checkStop]; split <;> simp
@[simp] theorem State.req_retarget (s : State) (c : Chan) (j : Job) (k : Class) :
    (s.retarget c j k).req = s.req := by
  simp only [State.retarget, State.req_checkStop]; split <;> simp
@[simp] theorem State.req_handOver (s : State) (c : Chan) (h : Option Standing) :
    (s.handOver c h).1.req = s.req := by
  simp only [State.handOver, State.handOverWaiting, State.handOverDriving, State.handOverPausing]
  repeat' split
  all_goals simp
@[simp] theorem State.req_handOverStopped (s : State) (c : Chan) (h : Option Standing) :
    (s.handOverStopped c h).1.req = s.req := by
  obtain ⟨-, e⟩ | ⟨-, e⟩ | ⟨-, -, -, e⟩ := s.handOverStopped_cases c h <;> simp [e]
@[simp] theorem State.req_barred (s : State) (c : Chan) : (s.barred c).1.req = s.req := by
  simp only [State.barred]; split <;> simp
@[simp] theorem State.req_granted (s : State) (c : Chan) : (s.granted c).1.req = s.req := by
  simp only [State.granted]
  repeat' split
  all_goals simp
@[simp] theorem State.req_takeWish (s : State) (c : Chan) : (s.takeWish c).1.req = s.req := by
  simp only [State.takeWish]; split <;> simp
@[simp] theorem State.req_grantLocal (s : State) : s.grantLocal.1.req = s.req := by
  simp only [State.grantLocal]; split <;> simp

theorem State.entries_of_req {s t : State} (h : s.req = t.req) : s.entries = t.entries := by
  simp [State.entries, State.table, h]

@[simp] theorem State.entries_removeService (s : State) (c : Chan) :
    (s.removeEntry c .service).entries = s.entries := by
  cases c <;> simp [State.entries, State.removeEntry, State.table, State.setTable, ReqTable.put, Pair.set,
    Pair.get]

/-- No signal writes, removes or clamps an entry other than SERVICE (R74). -/
theorem State.entries_handle (s : State) (x : Signal) : (s.handle x).1.entries = s.entries := by
  cases x <;> simp only [State.handle]
  case report c =>
    simp only [State.takeReport]
    repeat' split
    all_goals simp
  case select c l => simp only [State.select]; split <;> rfl
  case selectStored c l =>
    simp only [State.selectStored]
    split
    · exact (State.entries_of_req (State.req_handOverStopped _ c _)).trans rfl
    · rfl
  all_goals exact State.entries_of_req (by simp)

/-- A cascade leaves every entry but SERVICE. -/
theorem drain_entries (n : Nat) (l : List Signal) (s : State) : (drain n l s).entries = s.entries :=
  drain_keeps (P := fun t => t.entries = s.entries)
    (fun t x ht => (State.entries_handle t x).trans ht) n l s rfl

/-! ### The other channel, rest and coasts -/

/-- Outside isolated operation, signals to one channel leave what belongs to the other, and raise none for it
(R141 is the one rule by which one channel's run acts on the other's). -/
theorem drain_own (c : Chan) (n : Nat) (l : List Signal) (s : State) (hi : s.isolated = false)
    (hl : ∀ x ∈ l, x.chan ≠ some c) : (drain n l s).own c = s.own c := by
  refine (drain_keeps_of (P := fun t => t.own c = s.own c ∧ t.isolated = false)
    (Q := fun x => x.chan ≠ some c) ?_ ?_ n l s hl ⟨rfl, hi⟩).1
  · intro t x ht hx
    refine ⟨?_, (State.base_isolated (State.base_handle t x)).trans ht.2⟩
    by_cases hx' : x = .localSlot
    · subst hx'; simpa [State.handle, State.grantLocal_idle t ht.2] using ht.1
    · exact (State.own_handle t x c hx hx').trans ht.1
  · intro t x ht hx y hy
    by_cases hx' : x = .localSlot
    · subst hx'; simp [State.handle, State.grantLocal_idle t ht.2] at hy
    · have hd : ∃ d, x.chan = some d := by cases x <;> simp_all [Signal.chan]
      obtain ⟨d, hd⟩ := hd
      rcases State.handle_raises t x d hd y hy with h | h
      · rw [h, ← hd]; exact hx
      · rw [h]; simp [Signal.chan]

@[simp] theorem State.chan_queue (s : State) (p : Place) (r : TxRequest) (c : Chan) :
    (s.queue p r).chan c = s.chan c := by unfold State.queue; split <;> rfl
@[simp] theorem State.chan_queueRelease (s : State) (d : Chan) (r : TxRequest) (c : Chan) :
    (s.queueRelease d r).chan c = s.chan c := by unfold State.queueRelease; split <;> rfl
@[simp] theorem State.chan_requestReport (s : State) (c : Chan) : s.requestReport.chan c = s.chan c := by
  unfold State.requestReport; split <;> simp
@[simp] theorem State.chan_queueClaim (s : State) (d : Chan) (k : Nat) (v : ClaimVals) (b : Bool)
    (c : Chan) : (s.queueClaim d k v b).chan c = s.chan c := by simp [State.queueClaim]
@[simp] theorem State.chan_sendRelease (s : State) (d : Chan) (k : Nat) (o : ReleaseOutcome) (c : Chan) :
    (s.sendRelease d k o).chan c = s.chan c := by simp [State.sendRelease]
@[simp] theorem State.chan_makeClaim (s : State) (d c : Chan) : (s.makeClaim d).chan c = s.chan c := by
  simp [State.makeClaim, State.chan, State.queueClaim]
  unfold State.queue; split <;> simp [State.setClaim]
@[simp] theorem State.chan_claimIfDue (s : State) (d c : Chan) : (s.claimIfDue d).chan c = s.chan c := by
  unfold State.claimIfDue; split <;> simp
@[simp] theorem State.chan_updateClaim (s : State) (d : Chan) (v : ClaimVals) (c : Chan) :
    (s.updateClaim d v).chan c = s.chan c := by simp only [State.updateClaim]; split <;> simp
@[simp] theorem State.chan_withdrawClaim (s : State) (d c : Chan) :
    (s.withdrawClaim d).chan c = s.chan c := by simp only [State.withdrawClaim]; split <;> simp
@[simp] theorem State.chan_renewClaim (s : State) (d : Chan) (v : ClaimVals) (c : Chan) :
    (s.renewClaim d v).chan c = s.chan c := by
  simp only [State.renewClaim]
  split
  · split <;> simp
  all_goals simp
@[simp] theorem State.chan_releaseHeld (s : State) (d : Chan) (o : ReleaseOutcome) (c : Chan) :
    (s.releaseHeld d o).chan c = s.chan c := by simp only [State.releaseHeld]; split <;> simp
@[simp] theorem State.chan_releaseSlot (s : State) (d : Chan) (e : EndCause) (c : Chan) :
    (s.releaseSlot d e).chan c = s.chan c := by
  simp only [State.releaseSlot, State.chan_setClaim]; split <;> simp

/-- A run state in which a hand-over is only stored (R83). -/
def RunState.rests (r : RunState) : Bool :=
  match r with
  | .backoff => true
  | .blocked => true
  | .supplyWait => true
  | .fault => true
  | .idle => false | .waitSlot => false | .starting => false | .driving => false | .coasting => false
  | .dwell => false

/-- A channel that rests, or coasts headed for a cause that no hand-over replaces (R98). -/
def Channel.settled (ch : Channel) : Bool :=
  ch.runState.rests || (ch.runState == .coasting && ch.headed.any Heading.final)

/-- A hand-over to a settled channel changes its standing request alone (R83, R98). -/
theorem State.still_handOver (s : State) (c : Chan) (x : Option Standing) (h : (s.chan c).settled = true) :
    ((s.handOver c x).1.chan c).still = (s.chan c).still := by
  simp only [State.handOver]
  split <;> simp_all [Channel.settled, RunState.rests, Channel.still, State.handOverPausing]

/-- A hand-over to a coasting channel changes what follows the coast alone (R98). -/
theorem State.coasting_handOver (s : State) (c : Chan) (x : Option Standing)
    (h : (s.chan c).runState = .coasting) :
    ((s.handOver c x).1.chan c).coasting = (s.chan c).coasting := by
  simp only [State.handOver, h, State.handOverPausing]
  repeat' split
  all_goals simp_all [Channel.coasting, State.renewFor]

/-- A settled channel keeps its record through every signal, but for its standing request (R83, R98). -/
theorem State.still_handle (s : State) (x : Signal) (c : Chan) (h : (s.chan c).settled = true) :
    ((s.handle x).1.chan c).still = (s.chan c).still := by
  by_cases hx : x.chan = some c
  · cases x <;> simp only [Signal.chan, Option.some.injEq, reduceCtorEq] at hx <;> (try subst hx) <;>
      simp only [State.handle]
    case report =>
      simp only [State.takeReport]
      repeat' split
      all_goals rfl
    case select => simp only [State.select]; split <;> rfl
    case selectStored c l =>
      simp only [State.selectStored]
      split
      · obtain ⟨d, -⟩ | ⟨-, e⟩ | ⟨-, -, -, e⟩ := (s.markEffective c).handOverStopped_cases c
          (s.standingOf c (s.effectiveEntry c))
        · have d : (s.chan c).runState = .dwell := d
          simp [Channel.settled, d, RunState.rests] at h
        · simp only [e, State.chan_setChan]; rfl
        · rw [e]; exact State.still_handOver _ c _ h
      · rfl
    case handOver c x => exact s.still_handOver c x h
    case decide =>
      simp only [State.decideRun]
      rw [if_pos (by intro e; simp [Channel.settled, e, RunState.rests] at h)]
    case wish =>
      simp only [State.takeWish]; split <;> simp
    case granted =>
      simp only [State.granted]
      split <;> simp_all [Channel.settled, RunState.rests]
    case barred =>
      simp only [State.barred]
      rw [if_neg (by
        intro e
        simp only [Bool.and_eq_true, State.waitsToOpen] at e
        split at e <;> simp_all [Channel.settled, RunState.rests])]
  · rw [State.chan_handle_other s x c hx]

/-- A coasting channel goes on coasting through every signal; only what follows the coast may change (R98). -/
theorem State.coasting_handle (s : State) (x : Signal) (c : Chan)
    (h : (s.chan c).runState = .coasting) :
    ((s.handle x).1.chan c).coasting = (s.chan c).coasting := by
  by_cases hx : x.chan = some c
  · cases x <;> simp only [Signal.chan, Option.some.injEq, reduceCtorEq] at hx <;> (try subst hx) <;>
      simp only [State.handle]
    case report =>
      simp only [State.takeReport]
      repeat' split
      all_goals rfl
    case select => simp only [State.select]; split <;> rfl
    case selectStored c l =>
      simp only [State.selectStored]
      split
      · obtain ⟨d, -⟩ | ⟨-, e⟩ | ⟨-, -, -, e⟩ := (s.markEffective c).handOverStopped_cases c
          (s.standingOf c (s.effectiveEntry c))
        · have d : (s.chan c).runState = .dwell := d
          simp [d] at h
        · simp only [e, State.chan_setChan]; rfl
        · rw [e]; exact State.coasting_handOver _ c _ h
      · rfl
    case handOver c x => exact s.coasting_handOver c x h
    case decide =>
      simp only [State.decideRun]
      rw [if_pos (by intro e; simp [e] at h)]
    case wish =>
      simp only [State.takeWish]; split <;> simp
    case granted =>
      simp only [State.granted]
      split <;> simp_all
    case barred =>
      simp only [State.barred]
      rw [if_neg (by
        intro e
        simp only [Bool.and_eq_true, State.waitsToOpen] at e
        split at e <;> simp_all)]
  · rw [State.chan_handle_other s x c hx]

theorem Channel.still_runState {a b : Channel} (h : a.still = b.still) : a.runState = b.runState := by
  have e : a.still.runState = b.still.runState := by rw [h]
  exact e
theorem Channel.still_settled {a b : Channel} (h : a.still = b.still) : a.settled = b.settled := by
  have e : a.still.settled = b.still.settled := by rw [h]
  exact e
theorem Channel.coasting_runState {a b : Channel} (h : a.coasting = b.coasting) :
    a.runState = b.runState := by
  have e : a.coasting.runState = b.coasting.runState := by rw [h]
  exact e

/-- A settled channel keeps its record through a cascade, but for its standing request. -/
theorem drain_still (c : Chan) (n : Nat) (l : List Signal) (s : State)
    (h : (s.chan c).settled = true) : ((drain n l s).chan c).still = (s.chan c).still := by
  refine drain_keeps (P := fun t => (t.chan c).still = (s.chan c).still) ?_ n l s rfl
  intro t x ht
  exact (State.still_handle t x c (by rw [Channel.still_settled ht]; exact h)).trans ht

/-- A coasting channel goes on coasting through a cascade. -/
theorem drain_coasting (c : Chan) (n : Nat) (l : List Signal) (s : State)
    (h : (s.chan c).runState = .coasting) : ((drain n l s).chan c).coasting = (s.chan c).coasting := by
  refine drain_keeps (P := fun t => (t.chan c).coasting = (s.chan c).coasting) ?_ n l s rfl
  intro t x ht
  exact (State.coasting_handle t x c (by rw [Channel.coasting_runState ht]; exact h)).trans ht

end Sys2Proof.Machine
end

