-- ==== Sys2Proof/Laws/Fixed.lean ====
section
/-! SUPPORT. What every command but a reset and the release of reset leaves: the queue, the clock, the straps and
the block as read; but for the load, the working configuration and the config-fault flag; but for the load and
the end of the listen-in, the phase; and, but for a store write's end, the store. -/

namespace Sys2Proof.Machine

open Sys2Proof

/-- The queue, the clock, the phase, the configuration and its fault flag, the straps and the store. -/
def State.fixed (s : State) :
    List Instr × Nat × Phase × Settings × Bool × Straps × List Byte × List Byte × Bool :=
  (s.pending, s.now, s.phase, s.config, s.configFault, s.straps, s.blockRead, s.store, s.storeTorn)

theorem State.fixed_eq_iff (s t : State) : s.fixed = t.fixed ↔
    s.pending = t.pending ∧ s.now = t.now ∧ s.phase = t.phase ∧ s.config = t.config ∧
      s.configFault = t.configFault ∧ s.straps = t.straps ∧ s.blockRead = t.blockRead ∧
      s.store = t.store ∧ s.storeTorn = t.storeTorn := by
  simp only [State.fixed, Prod.mk.injEq]

theorem State.fixed_of_base {s t : State} (h : s.base = t.base) : s.fixed = t.fixed := by
  have := (State.base_eq_iff s t).mp h
  simp only [State.fixed, Prod.mk.injEq]; tauto

@[simp] theorem State.fixed_setChan (s : State) (c : Chan) (x : Channel) : (s.setChan c x).fixed = s.fixed := rfl
@[simp] theorem State.fixed_setClaim (s : State) (c : Chan) (x : ClaimRecord) :
    (s.setClaim c x).fixed = s.fixed := rfl
@[simp] theorem State.fixed_setTable (s : State) (c : Chan) (x : ReqTable) :
    (s.setTable c x).fixed = s.fixed := rfl
@[simp] theorem State.fixed_setLin (s : State) (x : Lin) : (s.setLin x).fixed = s.fixed := rfl
@[simp] theorem State.fixed_setWxi (s : State) (x : Wxi) : (s.setWxi x).fixed = s.fixed := rfl
@[simp] theorem State.fixed_setPin (s : State) (c : Chan) (x : ChanPins) : (s.setPin c x).fixed = s.fixed := rfl
@[simp] theorem State.fixed_settle (s : State) : s.settle.fixed = s.fixed := rfl
@[simp] theorem State.fixed_queue (s : State) (p : Place) (r : TxRequest) : (s.queue p r).fixed = s.fixed :=
  State.fixed_of_base (by simp)
@[simp] theorem State.fixed_requestReport (s : State) : s.requestReport.fixed = s.fixed :=
  State.fixed_of_base (by simp)
@[simp] theorem State.fixed_handle (s : State) (x : Signal) : (s.handle x).1.fixed = s.fixed :=
  State.fixed_of_base (by simp)
/-- The end of a command leaves what its operations left. -/
@[simp] theorem finished_fixed (e : Eff) : (finished e).fixed = e.1.fixed :=
  State.fixed_of_base (by simp)

/-! ### The Threat Unit and the Source Table -/

@[simp] theorem State.base_abortOpening (s : State) (c : Chan) : (s.abortOpening c).base = s.base := by
  simp only [State.abortOpening]
  repeat' split
  all_goals simp
/-- A threat record is replaced, and nothing that `State.base` keeps besides. -/
@[simp] theorem State.base_setThreat (s : State) (c : Chan) (t : Threat) :
    (s.setThreat c t).1.base = (s.setThr c t).base := by
  simp only [State.setThreat]; split <;> simp
@[simp] theorem State.fixed_setThreat (s : State) (c : Chan) (t : Threat) :
    (s.setThreat c t).1.fixed = s.fixed :=
  (State.fixed_of_base (State.base_setThreat s c t)).trans rfl
@[simp] theorem State.fixed_computeThreat (s : State) (c : Chan) : (s.computeThreat c).1.fixed = s.fixed := by
  simp only [State.computeThreat]; split <;> simp
@[simp] theorem State.fixed_handPicture (s : State) : s.handPicture.1.fixed = s.fixed := by
  simp [State.handPicture]
@[simp] theorem State.fixed_expireHold (s : State) (c : Chan) : (s.expireHold c).1.fixed = s.fixed := by
  simp only [State.expireHold]; split <;> simp
@[simp] theorem State.fixed_unlatchChannel (s : State) (c : Chan) :
    (s.unlatchChannel c).1.fixed = s.fixed := by simp only [State.unlatchChannel]; split <;> simp
@[simp] theorem State.fixed_setSrc (s : State) (x : Src) : (s.setSrc x).fixed = s.fixed := rfl
@[simp] theorem State.fixed_recompute (s : State) (b : Bool) : (s.recompute b).1.fixed = s.fixed := by
  simp only [State.recompute, State.fixed_handPicture]; split <;> simp
@[simp] theorem State.fixed_takeLocal (s : State) (o : Observation) : (s.takeLocal o).1.fixed = s.fixed := by
  simp only [State.takeLocal]; split <;> simp
@[simp] theorem State.fixed_takeWeather (s : State) (a : Nat) (f : WeatherFields) :
    (s.takeWeather a f).1.fixed = s.fixed := by simp only [State.takeWeather]; split <;> simp
@[simp] theorem State.fixed_expireSource (s : State) (k : Nat) : (s.expireSource k).1.fixed = s.fixed := by
  simp only [State.expireSource]
  split
  · rfl
  · split <;> simp

/-! ### The Weather Inputs -/

@[simp] theorem State.fixed_publish (s : State) (u : Bool) (x : Cause) : (s.publish u x).fixed = s.fixed := by
  simp only [State.publish]
  repeat' split
  all_goals simp
@[simp] theorem State.fixed_weatherFrameEnd (s : State) : s.weatherFrameEnd.fixed = s.fixed := by
  simp only [State.weatherFrameEnd]; split <;> simp
@[simp] theorem State.fixed_evaluateRain (s : State) : s.evaluateRain.fixed = s.fixed := by
  simp only [State.evaluateRain]; split <;> simp
@[simp] theorem State.fixed_countRain (s : State) : s.countRain.fixed = s.fixed := by
  simp only [State.countRain]; split <;> simp
@[simp] theorem State.fixed_minuteBoundary (s : State) : s.minuteBoundary.fixed = s.fixed := by
  simp [State.minuteBoundary]
@[simp] theorem State.fixed_periodicRequest (s : State) : s.periodicRequest.fixed = s.fixed := by
  simp only [State.periodicRequest]
  repeat' split
  all_goals simp
@[simp] theorem State.fixed_gustRequest (s : State) : s.gustRequest.fixed = s.fixed := by
  simp only [State.gustRequest]; split <;> simp
@[simp] theorem State.fixed_closeWindow (s : State) (v : BitVec 4) : (s.closeWindow v).fixed = s.fixed := by
  simp only [State.closeWindow, State.fixed_setWxi]; split <;> simp
@[simp] theorem State.fixed_endWindow (s : State) (v : BitVec 4) : (s.endWindow v).1.fixed = s.fixed := by
  simp [State.endWindow]

/-! ### The Run Slot Unit and the Line Interface -/

@[simp] theorem State.base_removeClaims (s : State) (c : Chan) : (s.removeClaims c).base = s.base := by
  unfold State.removeClaims
  rw [State.base_setLin]
  · simp
  · simp [Lin.purge]
@[simp] theorem State.base_isolateChannel (s : State) (c : Chan) : (s.isolateChannel c).base = s.base := by
  simp [State.isolateChannel]
@[simp] theorem State.base_enterIsolation (s : State) : s.enterIsolation.1.base = s.base := by
  simp only [State.enterIsolation]; split <;> simp
@[simp] theorem State.base_sendOwedRelease (s : State) (c : Chan) : (s.sendOwedRelease c).base = s.base := by
  simp only [State.sendOwedRelease]; split <;> simp
@[simp] theorem State.base_holdLocal (s : State) (c : Chan) : (s.holdLocal c).base = s.base := by
  simp only [State.holdLocal]; split <;> simp
@[simp] theorem State.base_sendOwedRenewal (s : State) (c : Chan) : (s.sendOwedRenewal c).base = s.base := by
  simp only [State.sendOwedRenewal]; split <;> simp
@[simp] theorem State.base_resumeChannel (s : State) (c : Chan) : (s.resumeChannel c).base = s.base := by
  simp only [State.resumeChannel]; split <;> simp
@[simp] theorem State.base_endIsolation (s : State) : s.endIsolation.base = s.base := by
  simp [State.endIsolation]
/-- A change of the isolation causes changes the causes, and nothing that `State.base` keeps besides. -/
theorem State.base_changeCauses (s : State) (f : Lin → Lin) :
    (s.changeCauses f).1.base = (s.setLin (f s.lin)).base := by
  simp only [State.changeCauses]
  split
  · rfl
  · split
    · split <;> simp
    · split <;> simp
@[simp] theorem State.fixed_changeCauses (s : State) (f : Lin → Lin) :
    (s.changeCauses f).1.fixed = s.fixed := (State.fixed_of_base (State.base_changeCauses s f)).trans rfl
@[simp] theorem State.fixed_setRuns (s : State) (x : List RunEntry) : (s.setRuns x).fixed = s.fixed := rfl
@[simp] theorem State.fixed_noteCapacity (s : State) (k : Nat) : (s.noteCapacity k).fixed = s.fixed := rfl
@[simp] theorem State.base_yieldChannel (s : State) (c : Chan) : (s.yieldChannel c).1.base = s.base := by
  simp only [State.yieldChannel]; split <;> simp
@[simp] theorem State.base_yieldSlot (s : State) (c : Chan) : (s.yieldSlot c).1.base = s.base := by
  simp [State.yieldSlot]
@[simp] theorem State.base_yieldTo (s : State) (c : Chan) (k : Class) (r : Bool) :
    (s.yieldTo c k r).1.base = s.base := by simp only [State.yieldTo]; split <;> simp
@[simp] theorem State.fixed_yieldTo (s : State) (c : Chan) (k : Class) (r : Bool) :
    (s.yieldTo c k r).1.fixed = s.fixed := State.fixed_of_base (by simp)
@[simp] theorem State.fixed_takeClaim (s : State) (n : Nat) (f : ClaimFields) :
    (s.takeClaim n f).1.fixed = s.fixed := by
  simp only [State.takeClaim]
  split
  · simp
  · rfl
@[simp] theorem State.base_startStagger (s : State) (c : Chan) : (s.startStagger c).base = s.base := by
  simp only [State.startStagger]; split <;> simp
@[simp] theorem State.fixed_startStagger (s : State) (c : Chan) : (s.startStagger c).fixed = s.fixed :=
  State.fixed_of_base (by simp)
@[simp] theorem State.fixed_startAttempt (s : State) (p : Place) (f : TxFrame) :
    (s.startAttempt p f).fixed = s.fixed := by
  simp only [State.startAttempt, State.fixed_setLin]; split <;> simp
@[simp] theorem State.fixed_beginSlot (s : State) (k : Nat) : (s.beginSlot k).fixed = s.fixed := by
  simp only [State.beginSlot]
  repeat' split
  all_goals simp
@[simp] theorem State.fixed_claimComplete (s : State) (c : Chan) (f : ClaimFields) :
    (s.claimComplete c f).1.fixed = s.fixed := by
  simp only [State.claimComplete]
  repeat' split
  all_goals simp
@[simp] theorem State.fixed_releaseComplete (s : State) (c : Chan) (f : ReleaseFields) :
    (s.releaseComplete c f).fixed = s.fixed := by
  simp only [State.releaseComplete]; split <;> simp
@[simp] theorem State.fixed_completeAttempt (s : State) : s.completeAttempt.1.fixed = s.fixed := by
  simp only [State.completeAttempt]
  split
  · rfl
  · simp only [Eff.andThen_fst, State.fixed_changeCauses]
    split <;> simp
@[simp] theorem State.fixed_isolateByGiveUp (s : State) : s.isolateByGiveUp.1.fixed = s.fixed := by
  simp [State.isolateByGiveUp]
@[simp] theorem State.fixed_giveUpFrame (s : State) (p : Place) :
    (s.giveUpFrame p).1.fixed = s.fixed := by
  cases p <;> simp [State.giveUpFrame, State.fixed_of_base (State.base_removeClaims s _)]
@[simp] theorem State.fixed_collide (s : State) : s.collide.1.fixed = s.fixed := by
  simp only [State.collide]
  repeat' split
  all_goals simp
@[simp] theorem State.fixed_quiet (s : State) : s.quiet.1.fixed = s.fixed := by
  simp only [State.quiet, State.fixed_changeCauses]; rfl
@[simp] theorem State.fixed_conflict (s : State) : s.conflict.1.fixed = s.fixed := by
  simp only [State.conflict]
  split
  · rfl
  · split <;> simp
/-- A received frame leaves what its block leaves. -/
theorem State.fixed_receive (s : State) (i : Instr) (a : Addr) (f : State → Eff)
    (h : ∀ u, (f u).1.fixed = u.fixed) : (s.receive i a f).1.fixed = s.fixed := by
  simp only [State.receive]
  repeat' split
  all_goals simp [h]

/-! ### Start and commissioning -/

@[simp] theorem State.fixed_startWxi (s : State) : s.startWxi.fixed = s.fixed := by
  unfold State.startWxi; split <;> rfl
@[simp] theorem State.fixed_startSrc (s : State) : s.startSrc.fixed = s.fixed := by
  unfold State.startSrc; split <;> rfl
@[simp] theorem State.fixed_startSupply (s : State) : s.startSupply.fixed = s.fixed := by
  unfold State.startSupply; split <;> rfl
@[simp] theorem State.fixed_startService (s : State) (c : Chan) : (s.startService c).1.fixed = s.fixed := by
  unfold State.startService; split <;> rfl
@[simp] theorem State.fixed_startBlocks (s : State) : s.startBlocks.fixed = s.fixed :=
  (State.fixed_requestReport _).trans (by simp)
@[simp] theorem State.fixed_startPicture (s : State) : s.startPicture.1.fixed = s.fixed := by
  unfold State.startPicture; split <;> simp
@[simp] theorem State.fixed_firstPicture (s : State) : s.firstPicture.1.fixed = s.fixed := by
  unfold State.firstPicture; split <;> simp
theorem raiseTo_value (lo x : Nat) : (raiseTo lo x).value = max lo x := by
  simp only [raiseTo]; split <;> simp <;> omega
theorem raiseTo_flag (lo x : Nat) : (raiseTo lo x).flag = decide (x < lo) := by
  simp only [raiseTo]; split <;> simp_all
/-- The ascending form of the thresholds, and nothing else of the settings (R37). -/
theorem Settings.ascend_value (cfg : Settings) : cfg.ascend.value =
    { cfg with
      gClose := max cfg.gWatch cfg.gClose
      gSevere := max (max cfg.gWatch cfg.gClose) cfg.gSevere } := by
  simp [Settings.ascend, raiseTo_value]
theorem Settings.ascend_flag (cfg : Settings) : cfg.ascend.flag = true ↔
    cfg.gClose < cfg.gWatch ∨ cfg.gSevere < max cfg.gWatch cfg.gClose := by
  simp [Settings.ascend, raiseTo_value, raiseTo_flag]
/-- The load takes the thresholds and judges the role code; nothing that starts after that changes either. -/
theorem State.fixed_load (s : State) : s.load.1.fixed = s.beginListenIn.fixed := by
  simp only [State.load, Eff.andThen_fst, State.fixed_startPicture, State.fixed_startService,
    State.fixed_startBlocks]
theorem State.phase_load (s : State) : s.load.1.phase = .listenIn :=
  ((State.fixed_eq_iff _ _).mp s.fixed_load).2.2.1
theorem State.config_load (s : State) : s.load.1.config = s.config.ascend.value :=
  ((State.fixed_eq_iff _ _).mp s.fixed_load).2.2.2.1
theorem State.configFault_load (s : State) : s.load.1.configFault
    = (s.configFault || s.config.ascend.flag || s.straps.roleCode == 3) :=
  ((State.fixed_eq_iff _ _).mp s.fixed_load).2.2.2.2.1
@[simp] theorem State.fixed_judge (s : State) (c : Chan) (m : Nat) : (s.judge c m).fixed = s.fixed := rfl
/-- The end of a calibration leaves all this, or is the load, which begins the listen-in. -/
theorem State.fixed_endCalibration (s : State) (c : Chan) (m : Nat) :
    (s.endCalibration c m).1.fixed = s.fixed ∨
      s.phase = .calibrating ∧ (s.endCalibration c m).1.fixed = s.beginListenIn.fixed := by
  simp only [State.endCalibration]
  repeat' split
  all_goals simp_all [State.fixed_load]
  exact .inr rfl
theorem State.fixed_endListenIn (s : State) : s.endListenIn.1.fixed =
    if s.phase = .listenIn then s.enterRunning.fixed else s.fixed := by
  simp only [State.endListenIn]
  split
  · simp_all
  · simp_all [Eff.andThen_fst, State.fixed_firstPicture]

end Sys2Proof.Machine
end

