-- ==== Sys2Proof/Laws/Report.lean ====
section
/-! SUPPORT. The STATE frame through a command (R175): every operation of the Drive Channels, the Run Slot Unit, the
Request Table, the Threat Unit, the Source Table, the Weather Inputs and the isolation causes leaves the STATE place
and everything that calls for a frame as they were, or has asked for a STATE frame. -/

namespace Sys2Proof.Machine

open Sys2Proof

/-! ### The STATE place -/

/-- The STATE place of the transmit queue, and whether its frame is on the line. -/
def Lin.statePlace (l : Lin) : TxSlot × Bool := (l.queue.report, decide (l.attempt = some .report))

theorem Lin.statePlace_eq_iff (l m : Lin) : l.statePlace = m.statePlace ↔
    l.queue.report = m.queue.report ∧ (l.attempt = some .report ↔ m.attempt = some .report) := by
  simp [Lin.statePlace]

theorem TxQueue.report_put (q : TxQueue) {p : Place} (x : TxSlot) (h : p ≠ .report) :
    (q.put p x).report = q.report := TxQueue.get_put_other q (r := .report) x h.symm

theorem Lin.statePlace_put (l : Lin) {p : Place} (x : TxSlot) (h : p ≠ .report) :
    (l.put p x).statePlace = l.statePlace :=
  (Lin.statePlace_eq_iff _ _).mpr ⟨TxQueue.report_put _ x h, Iff.rfl⟩
theorem Lin.statePlace_enter (l : Lin) {p : Place} (r : TxRequest) (h : p ≠ .report) :
    (l.enter p r).statePlace = l.statePlace := Lin.statePlace_put l _ h
theorem Lin.statePlace_request (l : Lin) {p : Place} (r : TxRequest) (h : p ≠ .report) :
    (l.request p r).statePlace = l.statePlace := by
  simp only [Lin.request]
  split
  · exact Lin.statePlace_enter l r h
  · split
    · exact Lin.statePlace_put l _ h
    · exact Lin.statePlace_put l _ h
/-- Taking an attempt of another place off changes nothing of the STATE place. -/
theorem Lin.statePlace_unattempt (l : Lin) {p : Place} (h : p ≠ .report) :
    { l with attempt := if l.attempt = some p then none else l.attempt }.statePlace = l.statePlace := by
  by_cases e : l.attempt = some p <;> simp [Lin.statePlace, e, h]
@[simp] theorem Lin.statePlace_leaveClaim (l : Lin) (c : Chan) :
    (l.leaveClaim c).statePlace = l.statePlace := by
  have h : (Place.claim c) ≠ .report := by simp
  have key := (Lin.statePlace_unattempt (l.put (.claim c) { frame := none, successor := none }) h).trans
    (Lin.statePlace_put l _ h)
  simp only [Lin.leaveClaim]
  split
  · exact key
  · exact (Lin.statePlace_enter _ _ h).trans key
@[simp] theorem Lin.statePlace_dropRenewal (l : Lin) (c : Chan) (k : Option Byte) :
    (l.dropRenewal c k).statePlace = l.statePlace := by
  simp only [Lin.dropRenewal]
  repeat' split
  all_goals first | exact Lin.statePlace_put l _ (by simp) | rfl
@[simp] theorem Lin.statePlace_enterRelease (l : Lin) (c : Chan) (r : TxRequest) :
    (l.enterRelease c r).statePlace = l.statePlace := by
  simp only [Lin.enterRelease]
  split
  · exact Lin.statePlace_enter l r (by simp)
  · exact Lin.statePlace_put l _ (by simp)
@[simp] theorem Lin.statePlace_requestRelease (l : Lin) (c : Chan) (r : TxRequest) :
    (l.requestRelease c r).statePlace = l.statePlace := by
  simp only [Lin.requestRelease]
  repeat' split
  all_goals simp
theorem Lin.statePlace_purge (l : Lin) {p : Place} (h : p ≠ .report) :
    (l.purge p).statePlace = l.statePlace :=
  (Lin.statePlace_unattempt (l.put p { frame := none, successor := none }) h).trans
    (Lin.statePlace_put l _ h)

theorem State.statePlace_queue (s : State) {p : Place} (r : TxRequest) (h : p ≠ .report) :
    (s.queue p r).lin.statePlace = s.lin.statePlace := by
  unfold State.queue
  split
  · rfl
  · exact Lin.statePlace_request _ r h
@[simp] theorem State.statePlace_queueRelease (s : State) (c : Chan) (r : TxRequest) :
    (s.queueRelease c r).lin.statePlace = s.lin.statePlace := by
  unfold State.queueRelease
  split
  · rfl
  · exact Lin.statePlace_requestRelease _ c r
@[simp] theorem State.statePlace_queueClaim (s : State) (c : Chan) (k : Nat) (v : ClaimVals) (b : Bool) :
    (s.queueClaim c k v b).lin.statePlace = s.lin.statePlace := State.statePlace_queue _ _ (by simp)
@[simp] theorem State.statePlace_sendRelease (s : State) (c : Chan) (k : Nat) (o : ReleaseOutcome) :
    (s.sendRelease c k o).lin.statePlace = s.lin.statePlace := State.statePlace_queueRelease _ _ _
@[simp] theorem State.statePlace_makeClaim (s : State) (c : Chan) :
    (s.makeClaim c).lin.statePlace = s.lin.statePlace := State.statePlace_queueClaim _ _ _ _ _
@[simp] theorem State.statePlace_claimIfDue (s : State) (c : Chan) :
    (s.claimIfDue c).lin.statePlace = s.lin.statePlace := by unfold State.claimIfDue; split <;> simp
@[simp] theorem State.statePlace_updateClaim (s : State) (c : Chan) (v : ClaimVals) :
    (s.updateClaim c v).lin.statePlace = s.lin.statePlace := by
  simp only [State.updateClaim]; split <;> simp
@[simp] theorem State.statePlace_withdrawClaim (s : State) (c : Chan) :
    (s.withdrawClaim c).lin.statePlace = s.lin.statePlace := by
  simp only [State.withdrawClaim]; split <;> simp
@[simp] theorem State.statePlace_renewClaim (s : State) (c : Chan) (v : ClaimVals) :
    (s.renewClaim c v).lin.statePlace = s.lin.statePlace := by
  simp only [State.renewClaim]
  split
  · split <;> simp
  all_goals simp
@[simp] theorem State.statePlace_releaseHeld (s : State) (c : Chan) (o : ReleaseOutcome) :
    (s.releaseHeld c o).lin.statePlace = s.lin.statePlace := by
  simp only [State.releaseHeld]; split <;> simp
@[simp] theorem State.statePlace_releaseSlot (s : State) (c : Chan) (e : EndCause) :
    (s.releaseSlot c e).lin.statePlace = s.lin.statePlace := by
  simp only [State.releaseSlot, State.setClaim_lin]; split <;> simp

/-! ### Told: nothing to report, or a STATE frame asked for -/

/-- From `s` to `t` the conditions of a request for a STATE frame stay; and the STATE place and all that calls for a
frame stay, or a frame has been asked for. -/
def State.Told (s t : State) : Prop :=
  t.loaded = s.loaded ∧ t.lin.conflict = s.lin.conflict ∧
    (t.lin.attempt = some .report ↔ s.lin.attempt = some .report) ∧
    (t.lin.queue.report = s.lin.queue.report ∧ ¬ s.ReportDue t ∨ s.ReportAsked t)

theorem State.ReportDue.trans {s u t : State} (h : s.ReportDue t) : s.ReportDue u ∨ u.ReportDue t := by
  by_contra hn
  obtain ⟨h1, h2⟩ := not_or.mp hn
  simp only [State.ReportDue, not_or, not_exists, not_and] at h1 h2
  rcases h with ⟨c, h, hc⟩ | ⟨c, h⟩ | h | h | h | h
  · by_cases e : (t.chan c).runState = (u.chan c).runState
    · have := h1.1 c (by rwa [← e])
      rw [e] at hc
      tauto
    · have := h2.1 c e
      tauto
  · exact h ((not_not.mp (h2.2.1 c)).trans (not_not.mp (h1.2.1 c)))
  · exact h ((not_not.mp h2.2.2.1).trans (not_not.mp h1.2.2.1))
  · exact h ((not_not.mp h2.2.2.2.1).trans (not_not.mp h1.2.2.2.1))
  · exact h ((not_not.mp h2.2.2.2.2.1).trans (not_not.mp h1.2.2.2.2.1))
  · exact h ((not_not.mp h2.2.2.2.2.2).trans (not_not.mp h1.2.2.2.2.2))

theorem State.not_reportDue_self (s : State) : ¬ s.ReportDue s := by simp [State.ReportDue]

theorem State.Told.refl (s : State) : s.Told s :=
  ⟨rfl, rfl, Iff.rfl, .inl ⟨rfl, s.not_reportDue_self⟩⟩

/-- A frame that was asked for stays asked for. -/
theorem State.ReportAsked.then {s u t : State} (h : s.ReportAsked u)
    (ha : u.lin.attempt = some .report ↔ s.lin.attempt = some .report) (h' : u.Told t) :
    s.ReportAsked t := by
  obtain ⟨hl, hc, hu, hr⟩ := h'
  intro hl' hc'
  obtain ⟨h1, h2, h3⟩ := h (hl ▸ hl') (hc ▸ hc')
  rcases hr with ⟨hr, -⟩ | hr
  · simp only [hr]; exact ⟨h1, h2, h3⟩
  · obtain ⟨k1, k2, k3⟩ := hr hl' hc'
    refine ⟨fun hx => ?_, fun f hf hn => ?_, fun f hf hn => ?_⟩
    · obtain ⟨g, hg, g1, g2, g3, g4⟩ := h1 hx
      by_cases hn : u.lin.attempt = some .report
      · exact ⟨g, by rw [k3 g hg hn], g1, g2, g3, fun h => absurd (ha.mp hn) h⟩
      · have e := k2 g hg hn
        exact ⟨{ g with content := none }, by rw [e], g1, g2, rfl, fun h => by rw [e]; exact g4 h⟩
    · have e := h2 f hf hn
      rw [k2 { f with content := none } (by rw [e]) (by rwa [ne_eq, ha]), e]
    · have e := h3 f hf hn
      rw [k3 f (by rw [e]) (by rwa [ha]), e]; rfl

/-- A frame asked for after a stretch that left the STATE place, or had asked already. -/
theorem State.Told.asked {s u t : State} (h : s.Told u) (h' : u.ReportAsked t) (hl : t.loaded = u.loaded)
    (hc : t.lin.conflict = u.lin.conflict)
    (ha : t.lin.attempt = some .report ↔ u.lin.attempt = some .report) : s.ReportAsked t := by
  obtain ⟨-, -, hu, hr⟩ := h
  rcases hr with ⟨hr, -⟩ | hr
  · intro hl' hc'
    have := h' hl' hc'
    simp only [hr, ne_eq, hu] at this ⊢
    exact this
  · exact hr.then hu ⟨hl, hc, ha, .inr h'⟩

theorem State.Told.trans {s u t : State} (h : s.Told u) (h' : u.Told t) : s.Told t := by
  have g := h; have g' := h'
  obtain ⟨hl, hc, hu, hr⟩ := h
  obtain ⟨hl', hc', hu', hr'⟩ := h'
  refine ⟨hl'.trans hl, hc'.trans hc, hu'.trans hu, ?_⟩
  rcases hr with ⟨hr, hd⟩ | hr
  · rcases hr' with ⟨hr', hd'⟩ | hr'
    · exact .inl ⟨hr'.trans hr, fun e => e.trans.elim hd hd'⟩
    · exact .inr (g.asked hr' hl' hc' hu')
  · exact .inr (hr.then hu g')

/-- What is due has been asked for. -/
theorem State.Told.of_due {s t : State} (h : s.Told t) (hd : s.ReportDue t) : s.ReportAsked t := by
  obtain ⟨-, -, -, hr⟩ := h
  rcases hr with ⟨-, hn⟩ | hr
  · exact absurd hd hn
  · exact hr

/-- The STATE place stays, and nothing that calls for a frame has changed. -/
theorem State.Told.of_base {s t : State} (hb : t.base = s.base) (hp : t.lin.statePlace = s.lin.statePlace)
    (hr : ∀ c, (t.chan c).runState = (s.chan c).runState ∨ ((t.chan c).runState ≠ .idle ∧
      (t.chan c).runState ≠ .blocked ∧ (t.chan c).runState ≠ .fault)) : s.Told t := by
  have hb' := (State.base_eq_iff t s).mp hb
  have hl := (Lin.base_eq_iff _ _).mp (State.base_lin hb)
  obtain ⟨hq, ha⟩ := (Lin.statePlace_eq_iff _ _).mp hp
  refine ⟨State.base_loaded hb, hl.2.2.2.2.2.1, ha, .inl ⟨hq, ?_⟩⟩
  rintro (⟨c, h, hc⟩ | ⟨c, h⟩ | h | h | h | h)
  · rcases hr c with e | e
    · exact h e
    · tauto
  · exact h (State.base_held hb c)
  · exact h (by rw [State.base_src hb])
  · exact h (by simp [State.lineIsolated, hl.2.2.2.1, hl.2.2.2.2.1, hl.2.2.2.2.2.1])
  · exact h (by rw [State.base_pins hb])
  · exact h (by tauto)

/-- Every record stays. -/
theorem State.Told.of_chan {s t : State} (hb : t.base = s.base)
    (hp : t.lin.statePlace = s.lin.statePlace) (hr : ∀ c, t.chan c = s.chan c) : s.Told t :=
  .of_base hb hp (fun c => .inl (by rw [hr c]))

/-- The parts that a STATE frame reports at once, and those that a request for one reads, all stay. -/
def State.reported (s : State) :=
  (s.loaded, s.lin.conflict, s.lin.statePlace, s.dch, s.thr, s.src.picture.status, s.lineIsolated, s.pins.keyLocal,
    s.rep.outcome)

theorem State.Told.of_reported {s t : State} (h : t.reported = s.reported) : s.Told t := by
  simp only [State.reported, Prod.mk.injEq] at h
  obtain ⟨hl, hc, hp, hd, ht, h1, h2, h3, h4⟩ := h
  obtain ⟨hq, ha⟩ := (Lin.statePlace_eq_iff _ _).mp hp
  have hch : ∀ c, t.chan c = s.chan c := fun c => by simp [State.chan, hd]
  have hh : ∀ c, t.held c = s.held c := fun c => by simp [State.held, ht]
  exact ⟨hl, hc, ha, .inl ⟨hq, by simp [State.ReportDue, hch, hh, h1, h2, h3, h4]⟩⟩

/-- A request for a STATE frame, whatever has changed before it, as long as the STATE place stayed. -/
theorem State.asked_requestReport {s u : State} (hq : u.lin.queue.report = s.lin.queue.report)
    (ha : u.lin.attempt = some .report ↔ s.lin.attempt = some .report) :
    s.ReportAsked u.requestReport := by
  intro hl hc
  have hb := State.base_requestReport u
  have hl' : u.loaded = true := (State.base_loaded hb) ▸ hl
  have hc' : u.lin.conflict = false := by
    have := ((Lin.base_eq_iff _ _).mp (State.base_lin hb)).2.2.2.2.2.1
    rw [← this]; exact hc
  have e : u.requestReport.lin = u.lin.request .report { urgent := false, content := none } := by
    simp [State.requestReport, hl', State.queue, hc', State.setLin]
  simp only [e, ← hq]
  refine ⟨fun hx => ?_, fun f hf hn => ?_, fun f hf hn => ?_⟩
  · simp only [Lin.request, TxQueue.get, hx]
    exact ⟨_, rfl, rfl, rfl, rfl, fun _ => rfl⟩
  · have hn' : u.lin.attempt ≠ some .report := by rwa [ne_eq, ha]
    simp [Lin.request, TxQueue.get, hf, hn', Lin.put, TxQueue.put]
  · have hn' := ha.mpr hn
    simp only [Lin.request, TxQueue.get, hf, hn', if_true, Lin.putSuccessor, Lin.put, TxQueue.put]
    cases u.lin.queue.report.successor <;> simp

/-- A request does not start, end or move an attempt. -/
theorem State.attempt_requestReport (s : State) : s.requestReport.lin.attempt = s.lin.attempt := by
  simp only [State.requestReport, State.queue, Lin.request, Lin.enter, Lin.putSuccessor]
  repeat' split
  all_goals rfl

/-- A stretch that leaves the STATE place and ends with a request has asked, whatever else it has changed. -/
theorem State.Told.then_ask {s u : State} (hl : u.loaded = s.loaded) (hc : u.lin.conflict = s.lin.conflict)
    (hp : u.lin.statePlace = s.lin.statePlace) : s.Told u.requestReport := by
  obtain ⟨hq, ha⟩ := (Lin.statePlace_eq_iff _ _).mp hp
  have hb := State.base_requestReport u
  have hl' := (Lin.base_eq_iff _ _).mp (State.base_lin hb)
  exact ⟨(State.base_loaded hb).trans hl, hl'.2.2.2.2.2.1.trans hc,
    by rw [State.attempt_requestReport]; exact ha, .inr (State.asked_requestReport hq ha)⟩
/-- So has one that leaves everything that `State.base` keeps. -/
theorem State.told_ask {s u : State} (hb : u.base = s.base) (hp : u.lin.statePlace = s.lin.statePlace) :
    s.Told u.requestReport :=
  .then_ask (State.base_loaded hb) ((Lin.base_eq_iff _ _).mp (State.base_lin hb)).2.2.2.2.2.1 hp

theorem State.told_requestReport (s : State) : s.Told s.requestReport := State.told_ask rfl rfl

/-! ### The operations -/

/-- A record whose run state stays, or is none that a STATE frame reports at once. -/
theorem State.told_setChan (s : State) (c : Chan) (x : Channel)
    (h : x.runState = (s.chan c).runState ∨
      (x.runState ≠ .idle ∧ x.runState ≠ .blocked ∧ x.runState ≠ .fault)) : s.Told (s.setChan c x) := by
  refine .of_base rfl rfl (fun d => ?_)
  by_cases e : d = c
  · subst e; simpa using h
  · exact .inl (by simp [State.setChan, State.chan, Pair.get_set, e])

/-- What follows the replacement of a record whose run state stays. -/
theorem State.Told.of_setChan {s t : State} {c : Chan} {x : Channel} (h : (s.setChan c x).Told t)
    (hx : x.runState = (s.chan c).runState) : s.Told t := (s.told_setChan c x (.inl hx)).trans h

theorem State.told_setClaim (s : State) (c : Chan) (r : ClaimRecord) : s.Told (s.setClaim c r) :=
  .of_chan rfl rfl (fun _ => rfl)
theorem State.told_updateClaim (s : State) (c : Chan) (v : ClaimVals) : s.Told (s.updateClaim c v) :=
  .of_chan (by simp) (by simp) (by simp)
theorem State.told_withdrawClaim (s : State) (c : Chan) : s.Told (s.withdrawClaim c) :=
  .of_chan (by simp) (by simp) (by simp)
theorem State.told_renewClaim (s : State) (c : Chan) (v : ClaimVals) : s.Told (s.renewClaim c v) :=
  .of_chan (by simp) (by simp) (by simp)
theorem State.told_releaseHeld (s : State) (c : Chan) (o : ReleaseOutcome) : s.Told (s.releaseHeld c o) :=
  .of_chan (by simp) (by simp) (by simp)
theorem State.told_releaseSlot (s : State) (c : Chan) (e : EndCause) : s.Told (s.releaseSlot c e) :=
  .of_chan (by simp) (by simp) (by simp)
theorem State.told_claimIfDue (s : State) (c : Chan) : s.Told (s.claimIfDue c) :=
  .of_chan (by simp) (by simp) (by simp)

/-- An entry into IDLE asks for a STATE frame (R175). -/
theorem State.told_toIdle (s : State) (c : Chan) : s.Told (s.toIdle c).1 :=
  State.told_ask (by simp) (by simp)
theorem State.asked_toIdle (s : State) (c : Chan) : s.ReportAsked (s.toIdle c).1 :=
  State.asked_requestReport (by simp) (by simp)
theorem State.told_setChan_toIdle (s : State) (c : Chan) (x : Channel) : s.Told ((s.setChan c x).toIdle c).1 :=
  State.told_ask (by simp) (by simp)
theorem State.asked_setChan_toIdle (s : State) (c : Chan) (x : Channel) :
    s.ReportAsked ((s.setChan c x).toIdle c).1 := State.asked_requestReport (by simp) (by simp)

/-- The end of a run up to its next state: no run state has changed yet. -/
theorem State.told_handBack (s : State) (c : Chan) (h : Heading) :
    s.Told ((s.setChan c ((s.chan c).ended h)).releaseSlot c h.cause) :=
  (State.told_releaseSlot _ c _).of_setChan rfl

/-- The end of a run asks for a STATE frame where it enters IDLE, BLOCKED or FAULT (R95, R117, R175). -/
theorem State.told_endRun (s : State) (c : Chan) (h : Heading) : s.Told (s.endRun c h).1 := by
  have hs := s.told_handBack c h
  cases h <;> simp only [State.endRun]
  case done => exact hs.trans (State.told_setChan_toIdle _ c _)
  case supply =>
    split
    · exact hs.trans (State.told_toIdle _ c)
    · exact hs.trans (State.told_setChan _ c _ (.inr (by simp)))
  case fault => exact hs.trans (State.told_ask (by simp) (by simp))
  all_goals exact hs.trans (State.told_toIdle _ c)

theorem State.asked_endRun (s : State) (c : Chan) (h : Heading)
    (hg : h ≠ .supply ∨ s.supply.status = .good) : s.ReportAsked (s.endRun c h).1 := by
  have hs := s.told_handBack c h
  have key : ∀ x : Channel, s.ReportAsked
      (((((s.setChan c ((s.chan c).ended h)).releaseSlot c h.cause).setChan c x).toIdle c).1) := fun x =>
    hs.asked (State.asked_setChan_toIdle _ c x) (State.told_setChan_toIdle _ c x).1
      (State.told_setChan_toIdle _ c x).2.1 (State.told_setChan_toIdle _ c x).2.2.1
  have key' := hs.asked (State.asked_toIdle _ c) (State.told_toIdle _ c).1 (State.told_toIdle _ c).2.1
    (State.told_toIdle _ c).2.2.1
  cases h <;> simp only [State.endRun]
  case done => exact key _
  case supply =>
    have hb : ((s.setChan c ((s.chan c).ended .supply)).releaseSlot c Heading.supply.cause).base = s.base := by
      simp
    rw [if_pos (by rw [State.base_supply hb]; simpa using hg)]
    exact key'
  case fault k =>
    have ht := State.told_ask (s := (s.setChan c ((s.chan c).ended (.fault k))).releaseSlot c
        (Heading.fault k).cause)
      (u := ((s.setChan c ((s.chan c).ended (.fault k))).releaseSlot c (Heading.fault k).cause).setChan c
        (((((s.setChan c ((s.chan c).ended (.fault k))).releaseSlot c (Heading.fault k).cause).chan c).failed
          (((s.setChan c ((s.chan c).ended (.fault k))).releaseSlot c (Heading.fault k).cause).setting c)
          ((s.setChan c ((s.chan c).ended (.fault k))).releaseSlot c (Heading.fault k).cause).now k)))
      (by simp) (by simp)
    exact hs.asked (State.asked_requestReport (by simp) (by simp)) ht.1 ht.2.1 ht.2.2.1
  all_goals exact key'

theorem State.told_startMovement (s : State) (c : Chan) (j : Job) (p : Option Part) (w : Bool) :
    s.Told (s.startMovement c j p w).1 := by
  have hd : ∀ d, s.Told (s.setChan c ((s.chan c).started (s.setting c) s.now (s.comparatorActive c) j p d w)) := by
    intro d
    refine s.told_setChan c _ (.inr ?_)
    simp only [Channel.started]; split <;> simp
  simp only [State.startMovement]
  repeat' split
  all_goals first
    | exact hd _
    | exact s.told_endRun c _
    | exact (s.told_setChan c { s.chan c with position := 0, known := true } (.inl rfl)).trans
        (State.told_endRun _ c _)
theorem State.told_askRun (s : State) (c : Chan) (j : Job) (k : Class) : s.Told (s.askRun c j k).1 := by
  simp only [State.askRun]
  split
  · exact s.told_setChan c _ (.inr (by simp))
  · exact (s.told_setChan c _ (.inr (by simp))).trans (State.told_updateClaim _ c _)
theorem State.told_decideRun (s : State) (c : Chan) : s.Told (s.decideRun c).1 := by
  simp only [State.decideRun]
  repeat' split
  all_goals first
    | exact .refl s
    | exact s.told_askRun c _ _
    | exact s.told_setChan c _ (.inl rfl)
theorem State.told_leaveWait (s : State) (c : Chan) : s.Told (s.leaveWait c).1 :=
  (s.told_withdrawClaim c).trans (State.told_toIdle _ c)
theorem State.asked_leaveWait (s : State) (c : Chan) : s.ReportAsked (s.leaveWait c).1 :=
  (s.told_withdrawClaim c).asked (State.asked_toIdle _ c) (State.told_toIdle _ c).1
    (State.told_toIdle _ c).2.1 (State.told_toIdle _ c).2.2.1
theorem State.told_renewFor (s : State) (c : Chan) (j : Job) (k : Class) : s.Told (s.renewFor c j k) :=
  (State.told_renewClaim _ c _).of_setChan rfl
/-- The driver switched off: the channel coasts (R92). -/
theorem State.told_driverOff (s : State) (c : Chan) (ch : Channel) (h : Option Heading) (k : Continuation) :
    s.Told (s.setChan c (ch.driverOff s.now h k)) :=
  s.told_setChan c _ (.inr (by simp [Channel.driverOff]))
theorem State.told_checkStop (s : State) (c : Chan) : s.Told (s.checkStop c) := by
  simp only [State.checkStop]
  split
  · exact s.told_driverOff c _ _ _
  · exact .refl s
theorem State.told_retarget (s : State) (c : Chan) (j : Job) (k : Class) : s.Told (s.retarget c j k) := by
  simp only [State.retarget]
  refine State.Told.trans ?_ (State.told_checkStop _ c)
  split
  · exact (State.told_renewFor _ c _ _).of_setChan rfl
  · exact s.told_setChan c _ (.inl rfl)
theorem State.told_handOverWaiting (s : State) (c : Chan) (h : Option Standing) :
    s.Told (s.handOverWaiting c h).1 := by
  simp only [State.handOverWaiting]
  repeat' split
  all_goals first
    | exact s.told_leaveWait c
    | exact .refl s
    | exact (State.told_updateClaim _ c _).of_setChan rfl
theorem State.told_handOverDriving (s : State) (c : Chan) (h : Option Standing) :
    s.Told (s.handOverDriving c h).1 := by
  simp only [State.handOverDriving]
  repeat' split
  all_goals first
    | exact s.told_driverOff c _ _ _
    | exact .refl s
    | exact s.told_retarget c _ _
    | exact (s.told_driverOff c _ _ _).trans (State.told_renewFor _ c _ _)
theorem State.told_handOverPausing (s : State) (c : Chan) (h : Option Standing) :
    s.Told (s.handOverPausing c h).1 := by
  simp only [State.handOverPausing]
  repeat' split
  all_goals first
    | exact .refl s
    | exact s.told_endRun c _
    | exact s.told_setChan c _ (.inl rfl)
    | exact (State.told_renewFor _ c _ _).of_setChan rfl
theorem State.told_handOver (s : State) (c : Chan) (h : Option Standing) : s.Told (s.handOver c h).1 := by
  have hs := s.told_setChan c { s.chan c with standing := h } (.inl rfl)
  simp only [State.handOver]
  split
  all_goals first
    | exact hs
    | exact hs.trans (State.told_handOverWaiting _ c h)
    | exact hs.trans (State.told_handOverDriving _ c h)
    | exact hs.trans (State.told_handOverPausing _ c h)
theorem State.told_handOverStopped (s : State) (c : Chan) (h : Option Standing) :
    s.Told (s.handOverStopped c h).1 := by
  have hs := s.told_setChan c { s.chan c with standing := h } (.inl rfl)
  obtain ⟨-, e⟩ | ⟨-, e⟩ | ⟨-, -, -, e⟩ := s.handOverStopped_cases c h <;> rw [e]
  · exact hs.trans (State.told_endRun _ c _)
  · exact hs
  · exact s.told_handOver c h
theorem State.told_barred (s : State) (c : Chan) : s.Told (s.barred c).1 := by
  simp only [State.barred]
  split
  · exact s.told_leaveWait c
  · exact .refl s
theorem State.told_granted (s : State) (c : Chan) : s.Told (s.granted c).1 := by
  simp only [State.granted]
  repeat' split
  all_goals first
    | exact s.told_startMovement c _ _ _
    | exact .refl s
theorem State.told_markEffective (s : State) (c : Chan) : s.Told (s.markEffective c) :=
  .of_chan rfl rfl (fun _ => rfl)
theorem State.told_removeEntry (s : State) (c : Chan) (o : Origin) : s.Told (s.removeEntry c o) :=
  .of_chan rfl rfl (fun _ => rfl)
theorem State.told_takeReport (s : State) (c : Chan) : s.Told (s.takeReport c).1 := by
  simp only [State.takeReport]
  repeat' split
  all_goals exact .refl s
theorem State.told_takeWish (s : State) (c : Chan) : s.Told (s.takeWish c).1 := by
  simp only [State.takeWish]
  split
  · exact .refl s
  · exact s.told_claimIfDue c
theorem State.told_grantLocal (s : State) : s.Told s.grantLocal.1 := by
  simp only [State.grantLocal]
  split
  · exact .refl s
  · exact s.told_setClaim _ _

/-- Every signal leaves nothing to report, or has asked for a STATE frame (R175). -/
theorem State.told_handle (s : State) (x : Signal) : s.Told (s.handle x).1 := by
  cases x <;> simp only [State.handle]
  case report c => exact s.told_takeReport c
  case select c l =>
    simp only [State.select]
    split
    · exact s.told_markEffective c
    · exact .refl s
  case selectStored c l =>
    simp only [State.selectStored]
    split
    · exact (s.told_markEffective c).trans (State.told_handOverStopped _ c _)
    · exact .refl s
  case handOver c h => exact s.told_handOver c h
  case decide c => exact s.told_decideRun c
  case wish c => exact s.told_takeWish c
  case localSlot => exact s.told_grantLocal
  case granted c => exact s.told_granted c
  case barred c => exact s.told_barred c

/-- So does a cascade. -/
theorem drain_told (n : Nat) (l : List Signal) (s : State) : s.Told (drain n l s) :=
  drain_keeps (P := fun t => s.Told t) (fun t x h => h.trans (State.told_handle t x)) n l s (.refl s)

theorem State.told_settle (s : State) : s.Told s.settle := .of_chan rfl rfl (fun _ => rfl)

/-- And the end of a command. -/
theorem finished_told (e : Eff) : e.1.Told (finished e) := (drain_told _ _ _).trans (State.told_settle _)

/-- What an operation asked for, the command has asked for. -/
theorem finished_asked {s : State} {e : Eff} (h : s.ReportAsked e.1)
    (ha : e.1.lin.attempt = some .report ↔ s.lin.attempt = some .report) : s.ReportAsked (finished e) :=
  h.then ha (finished_told e)

/-! ### The isolation causes, the Threat Unit and the Weather Inputs -/

@[simp] theorem State.statePlace_removeClaims (s : State) (c : Chan) :
    (s.removeClaims c).lin.statePlace = s.lin.statePlace := by
  simp only [State.removeClaims, State.setLin_lin]
  exact (Lin.statePlace_purge _ (by simp)).trans (Lin.statePlace_purge _ (by simp))
@[simp] theorem State.statePlace_isolateChannel (s : State) (c : Chan) :
    (s.isolateChannel c).lin.statePlace = s.lin.statePlace := by simp [State.isolateChannel]
@[simp] theorem State.statePlace_enterIsolation (s : State) :
    s.enterIsolation.1.lin.statePlace = s.lin.statePlace := by
  simp only [State.enterIsolation]; split <;> simp
@[simp] theorem State.statePlace_resumeChannel (s : State) (c : Chan) :
    (s.resumeChannel c).lin.statePlace = s.lin.statePlace := by
  have h1 : ∀ u : State, (u.sendOwedRelease c).lin.statePlace = u.lin.statePlace := fun u => by
    simp only [State.sendOwedRelease]; split <;> simp
  have h2 : ∀ u : State, (u.holdLocal c).lin.statePlace = u.lin.statePlace := fun u => by
    simp only [State.holdLocal]; split <;> simp
  have h3 : ∀ u : State, (u.sendOwedRenewal c).lin.statePlace = u.lin.statePlace := fun u => by
    simp only [State.sendOwedRenewal]; split <;> simp
  simp only [State.resumeChannel]; split <;> simp [h1, h2, h3]
@[simp] theorem State.statePlace_endIsolation (s : State) :
    s.endIsolation.lin.statePlace = s.lin.statePlace := by simp [State.endIsolation]

/-- A change of the isolation causes, which asks for a STATE frame where the line state changes (R160, R175). -/
theorem State.told_changeCauses (s : State) (f : Lin → Lin) (hc : (f s.lin).conflict = s.lin.conflict)
    (hp : (f s.lin).statePlace = s.lin.statePlace) : s.Told (s.changeCauses f).1 := by
  simp only [State.changeCauses]
  split
  · next h =>
    refine .of_reported ?_
    have : (s.setLin (f s.lin)).lineIsolated = s.lineIsolated := (beq_iff_eq.mp h).symm
    simp only [State.reported, this]
    simp [hc, hp, State.loaded]
  · split
    · dsimp only
      split
      · exact .then_ask rfl hc hp
      · have hb := State.base_enterIsolation (s.setLin (f s.lin))
        exact .then_ask ((State.base_loaded hb).trans rfl)
          (((Lin.base_eq_iff _ _).mp (State.base_lin hb)).2.2.2.2.2.1.trans hc) (by simp [hp])
    · dsimp only
      split
      · exact .then_ask rfl hc hp
      · have hb := State.base_endIsolation (s.setLin (f s.lin))
        exact .then_ask ((State.base_loaded hb).trans rfl)
          (((Lin.base_eq_iff _ _).mp (State.base_lin hb)).2.2.2.2.2.1.trans hc) (by simp [hp])

theorem State.asked_changeCauses (s : State) (f : Lin → Lin) (hc : (f s.lin).conflict = s.lin.conflict)
    (hp : (f s.lin).statePlace = s.lin.statePlace)
    (hn : (s.setLin (f s.lin)).lineIsolated ≠ s.lineIsolated) : s.ReportAsked (s.changeCauses f).1 := by
  refine (s.told_changeCauses f hc hp).of_due (.inr (.inr (.inr (.inl ?_))))
  have hb := State.base_changeCauses s f
  have hl := (Lin.base_eq_iff _ _).mp (State.base_lin hb)
  simpa [State.lineIsolated, hl.2.2.2.1, hl.2.2.2.2.1, hl.2.2.2.2.2.1] using hn

theorem State.told_abortOpening (s : State) (c : Chan) : s.Told (s.abortOpening c) := by
  simp only [State.abortOpening]
  repeat' split
  all_goals first
    | exact .refl s
    | exact s.told_driverOff c _ _ _
    | exact s.told_setChan c _ (.inl rfl)

@[simp] theorem State.lin_hearHeld (s : State) (c : Chan) (w : Level) : (s.hearHeld c w).1.lin = s.lin := by
  have : ∀ n, (s.post c w n).lin = s.lin := fun n => by
    simp only [State.post]; repeat' split
    all_goals rfl
  simp only [State.hearHeld]
  repeat' split
  all_goals simp [this]

/-- A threat record is replaced; a changed held level asks for a STATE frame (R53, R175). -/
theorem State.told_setThreat (s : State) (c : Chan) (t : Threat) : s.Told (s.setThreat c t).1 := by
  simp only [State.setThreat]
  split
  · next h =>
    refine ⟨rfl, rfl, Iff.rfl, .inl ⟨rfl, ?_⟩⟩
    have hh : ∀ d, (s.setThr c t).held d = s.held d := fun d => by
      by_cases e : d = c
      · subst e; simpa [State.held] using h
      · simp [State.held, State.setThr, Pair.get_set, e]
    simp only [State.ReportDue, hh]
    simp [State.setThr, State.chan, State.lineIsolated]
  · have h1 : ((s.setThr c t).abortOpening c).lin = s.lin := by
      simp only [State.abortOpening]; repeat' split
      all_goals rfl
    have hb := State.base_abortOpening (s.setThr c t) c
    have hb2 : ((((s.setThr c t).abortOpening c).hearHeld c (s.held c)).1).base
        = ((s.setThr c t).abortOpening c).base := by simp
    exact .then_ask ((State.base_loaded hb2).trans ((State.base_loaded hb).trans rfl)) (by simp [h1]) (by simp [h1])

theorem State.told_computeThreat (s : State) (c : Chan) : s.Told (s.computeThreat c).1 := by
  simp only [State.computeThreat]
  split
  · exact .refl s
  · exact s.told_setThreat c _
theorem State.told_handPicture (s : State) : s.Told s.handPicture.1 :=
  (s.told_computeThreat .c0).trans (State.told_computeThreat _ .c1)
theorem State.told_expireHold (s : State) (c : Chan) : s.Told (s.expireHold c).1 := by
  simp only [State.expireHold]
  split
  · exact s.told_setThreat c _
  · exact .refl s
theorem State.told_unlatchChannel (s : State) (c : Chan) : s.Told (s.unlatchChannel c).1 := by
  simp only [State.unlatchChannel]
  split
  · exact s.told_setThreat c _
  · exact .refl s
theorem State.told_recompute (s : State) (b : Bool) : s.Told (s.recompute b).1 := by
  simp only [State.recompute]
  refine State.Told.trans ?_ (State.told_handPicture _)
  split
  · next h => exact .of_reported (by simp [State.reported, h, State.loaded, State.lineIsolated])
  · exact .then_ask rfl rfl rfl
theorem State.told_entries (s : State) (l : List SourceEntry) (b : Bool) :
    s.Told ((s.setSrc { s.src with entries := l }).recompute b).1 :=
  (State.Told.of_reported rfl).trans (State.told_recompute _ b)
theorem State.told_takeLocal (s : State) (o : Observation) : s.Told (s.takeLocal o).1 := by
  simp only [State.takeLocal]
  split
  · exact s.told_entries _ _
  · exact .refl s
theorem State.told_takeWeather (s : State) (a : Nat) (f : WeatherFields) : s.Told (s.takeWeather a f).1 := by
  simp only [State.takeWeather]
  split
  · exact s.told_entries _ _
  · exact .refl s
theorem State.told_expireSource (s : State) (k : Nat) : s.Told (s.expireSource k).1 := by
  simp only [State.expireSource]
  split
  · exact .refl s
  · split
    · exact s.told_entries _ _
    · exact .refl s

theorem State.reported_queue (s : State) {p : Place} (r : TxRequest) (h : p ≠ .report) :
    (s.queue p r).reported = s.reported := by
  have hb := State.base_queue s p r
  have hl := (Lin.base_eq_iff _ _).mp (State.base_lin hb)
  simp only [State.reported, State.statePlace_queue s r h, State.base_loaded hb, State.base_thr hb,
    State.base_src hb, State.base_pins hb, State.lineIsolated, hl.2.2.2.1, hl.2.2.2.2.1, hl.2.2.2.2.2.1]
  have : (s.queue p r).dch = s.dch ∧ (s.queue p r).rep = s.rep := by
    unfold State.queue; split <;> exact ⟨rfl, rfl⟩
  simp [this]
theorem State.told_publish (s : State) (u : Bool) (x : Cause) : s.Told (s.publish u x) := by
  simp only [State.publish]
  have h := fun w : Wxi => (State.reported_queue (s.setWxi w) (p := .weather)
    { urgent := u, content := none } (by simp)).trans (rfl : (s.setWxi w).reported = s.reported)
  repeat' split
  all_goals first
    | exact .of_reported (h _)
    | exact .of_reported rfl
theorem State.told_setWxi (s : State) (w : Wxi) : s.Told (s.setWxi w) := .of_reported rfl
theorem State.told_weatherFrameEnd (s : State) : s.Told s.weatherFrameEnd := by
  simp only [State.weatherFrameEnd]
  split
  · exact s.told_setWxi _
  · exact (s.told_setWxi _).trans (State.told_publish _ _ _)
theorem State.told_evaluateRain (s : State) : s.Told s.evaluateRain := by
  simp only [State.evaluateRain]
  split
  · exact s.told_setWxi _
  · exact (s.told_setWxi _).trans (State.told_publish _ _ _)
theorem State.told_countRain (s : State) : s.Told s.countRain := by
  simp only [State.countRain]
  split
  · exact s.told_setWxi _
  · exact (s.told_setWxi _).trans (State.told_evaluateRain _)
theorem State.told_endWindow (s : State) (v : BitVec 4) : s.Told (s.endWindow v).1 := by
  have h1 : s.Told (s.closeWindow v) := by
    simp only [State.closeWindow]
    refine State.Told.trans ?_ (State.told_setWxi _ _)
    split
    · exact (s.told_setWxi _).trans ((State.told_setWxi _ _).trans (State.told_evaluateRain _))
    · exact s.told_setWxi _
  have h2 : ∀ u : State, u.Told u.periodicRequest := fun u => by
    simp only [State.periodicRequest]
    repeat' split
    all_goals first
      | exact .refl u
      | exact (u.told_setWxi _).trans (State.told_publish _ _ _)
  have h3 : ∀ u : State, u.Told u.gustRequest := fun u => by
    simp only [State.gustRequest]
    split
    · exact u.told_publish _ _
    · exact .refl u
  exact (h1.trans (State.told_takeLocal _ _)).trans ((h2 _).trans (h3 _))

/-! ### Yields, CLAIMs taken and frames that leave their place -/

theorem State.told_yieldTo (s : State) (c : Chan) (k : Class) (r : Bool) : s.Told (s.yieldTo c k r).1 := by
  have h : ∀ u : State, u.Told (u.yieldChannel c).1 := fun u => by
    simp only [State.yieldChannel]
    split
    all_goals first
      | exact u.told_driverOff c _ _ _
      | exact u.told_endRun c _
      | exact u.told_setChan c _ (.inl rfl)
      | exact .refl u
  simp only [State.yieldTo]
  split
  · exact ((s.told_releaseHeld c _).trans (State.told_setClaim _ c _)).trans (h _)
  · exact .refl s
theorem State.told_takeClaim (s : State) (n : Nat) (f : ClaimFields) : s.Told (s.takeClaim n f).1 := by
  simp only [State.takeClaim]
  split
  · refine State.Told.trans (u := State.setRuns _ _) ?_
      ((State.told_yieldTo _ .c0 _ _).trans (State.told_yieldTo _ .c1 _ _))
    exact .of_reported rfl
  · exact .refl s
theorem State.told_startStagger (s : State) (c : Chan) : s.Told (s.startStagger c) := by
  simp only [State.startStagger]
  split
  · exact s.told_setClaim c _
  · exact .refl s

theorem Lin.statePlace_leave (l : Lin) {p : Place} (h : p ≠ .report) : (l.leave p).statePlace = l.statePlace := by
  have key := (Lin.statePlace_unattempt (l.put p { frame := none, successor := none }) h).trans
    (Lin.statePlace_put l _ h)
  cases p <;> simp only [Lin.leave, Lin.statePlace_leaveClaim]
  all_goals split
  all_goals first
    | exact key
    | exact (Lin.statePlace_requestRelease _ _ _).trans key
    | exact (Lin.statePlace_enter _ _ h).trans key

end Sys2Proof.Machine
end

