-- ==== Sys2Proof/Tests/Slice0.lean ====
section
/-! SUPPORT. Tests: the well-formedness smoke test, figures of the manual's worked examples, and for each
statement with hypotheses a witness that something meets them. -/

namespace Sys2Proof.Tests

open Sys2Proof Sys2Proof.Machine

/-! ### Well-formedness: each check refuses an ill-formed command -/

def fieldsW : WeatherFields := ⟨0, 0, 6, 0, 100, 100, 5, 2⟩
def fieldsO : OrderFields := ⟨0, 0, 1, 50⟩
def fieldsC : ClaimFields := ⟨3, 0, 4, 23, 36, 2, 0⟩
def fieldsR : ReleaseFields := ⟨3, 0, 7, 4⟩

theorem test_wf_refuses_weather_source_0 : (Instr.weatherFrame 0 fieldsW).wellFormed = false := by decide
theorem test_wf_refuses_order_sources : (Instr.orderClose 63 fieldsO).wellFormed = false ∧
    (Instr.orderOpen 63 fieldsO).wellFormed = false ∧ (Instr.orderStop 0 fieldsO).wellFormed = false ∧
    (Instr.orderShutFor 0 fieldsO).wellFormed = false ∧
    (Instr.orderUnlatch 63 fieldsO).wellFormed = false ∧
    (Instr.orderResetFault 0 fieldsO).wellFormed = false ∧
    (Instr.orderUnknownAction 0 9 fieldsO).wellFormed = false := by decide
theorem test_wf_refuses_known_action : (Instr.orderUnknownAction 9 6 fieldsO).wellFormed = false ∧
    (Instr.orderUnknownAction 9 7 fieldsO).wellFormed = true := by decide
theorem test_wf_refuses_claim_sources : (Instr.claimFrame 0 fieldsC).wellFormed = false ∧
    (Instr.releaseFrame 63 fieldsR).wellFormed = false ∧
    (Instr.runTableExpiry 0 .c0).wellFormed = false := by decide
theorem test_wf_refuses_slot_24 : (Instr.attemptStart 24).wellFormed = false ∧
    (Instr.attemptStart 23).wellFormed = true := by decide
theorem test_wf_refuses_state_frames : (Instr.stateFrame 9 []).wellFormed = false ∧
    (Instr.stateFrame 0 (List.replicate 18 0)).wellFormed = false := by decide
theorem test_wf_refuses_config_frames : (Instr.configData 9 5 0 []).wellFormed = false ∧
    (Instr.configData 63 5 0 (List.replicate 16 0)).wellFormed = false ∧
    (Instr.configCommit 0 5 0).wellFormed = false := by decide
theorem test_wf_refuses_short_readback : (Instr.storeWriteEnd []).wellFormed = false := by decide

/-! ### Figures of the manual -/

/-- 9.2: the check value of the CRC. -/
theorem test_crc_check_value :
    crc16 [0x31, 0x32, 0x33, 0x34, 0x35, 0x36, 0x37, 0x38, 0x39] = 0x29B1#16 := by decide +kernel

/-- 9.5: the WEATHER frame of node 7, KIND to cause. -/
theorem test_weather_frame_bytes : (contentBytes 7 (.weather fieldsW)).take 15 =
    [0x5A, 0x12, 0x07, 0x0B, 0, 0, 6, 0, 0, 0, 0x64, 0, 0x64, 5, 2] := by decide

/-- 9.5: the CLAIM of node 14. -/
theorem test_claim_frame_bytes : (contentBytes 14 (.claim fieldsC)).take 11 =
    [0x5A, 0x18, 0x0E, 7, 3, 0, 4, 23, 36, 2, 0] := by decide

/-- 5.11: the three estimates from UNKNOWN. -/
theorem test_estimates :
    (Channel.reset.estimateOf { defaultChan with travel := 12000 } .home = 36) ∧
    (Channel.reset.estimateOf { defaultChan with travel := 12000 } (.homeThenSeek 12000) = 66) ∧
    (Channel.reset.estimateOf defaultChan .home = 185) ∧
    (Channel.reset.estimateOf defaultChan (.homeThenSeek 65000) = 255) := by decide

/-! ### A node to act on -/

/-- A DRIVE node at address 5 on segment 3, running, nothing asked of it. -/
def node : State :=
  { State.reset with
    phase := .running, now := 100000
    straps := { address := 5, roleCode := 0, commissioning := false }
    config := { defaultSettings with segment := 3, capacity := 2 }
    supply := { status := .good, qualify := none }
    rsu := { Rsu.reset with working := 2 } }

/-- The same node with both sensors. -/
def mast : State :=
  { node with
    straps := { address := 5, roleCode := 2, commissioning := false }
    wxi := { Wxi.reset with windowEnd := some 103000 }
    src := { entries := [{ address := 0, tier := .first, status := .absent, obs := .reset
                           lastSeq := none, acceptedAt := none }]
             picture := .reset } }

/-- A node whose rain input is of GATED mode. -/
def gated : State := { mast with config := { mast.config with rainMode := .gated } }

/-- The node with another record of channel 0. -/
def withDrive (ch : Channel) : State := { node with dch := { c0 := ch, c1 := .reset } }

/-- The node with another claim of channel 0. -/
def withClaim (s : State) (r : ClaimRecord) : State :=
  { s with rsu := { s.rsu with claims := { c0 := r, c1 := .reset } } }

/-- A channel that drives closing by count, from 2000 to 1000, and one that homes. -/
def seeking : Channel :=
  { Channel.reset with
    position := 2000, known := true, runState := .driving, job := some (.seek 1000)
    direction := .closing, stall := some 100300, estimate := some 5
    standing := some ⟨.panel, .openTo 1, .user, false⟩ }
def homing : Channel := { seeking with job := some .home, travelBudget := 9000 }

/-- A run that holds its slot. -/
def heldClaim : ClaimRecord :=
  { ClaimRecord.reset with state := .held, token := 7, current := some ⟨.user, 5⟩ }

/-- A coast with nothing to follow, headed for the given end. -/
def coastingTo (h : Heading) : Channel :=
  { seeking with runState := .coasting, coast := some 100000, stall := none, headed := some h }

/-- A claim whose window ends, and a channel that waits for it. -/
def claiming : ClaimRecord :=
  { ClaimRecord.reset with
    state := .claiming, token := 7, current := some ⟨.user, 5⟩, announcedVals := some ⟨.user, 5⟩
    announced := true, completion := some 99750, window := some 100000 }
def waitingSlot : Channel :=
  { seeking with runState := .waitSlot, stall := none, claimedJob := some (.seek 1000) }

/-- The state after a command. -/
def after (i : Instr) (s : State) : State :=
  match exec i s with
  | .next t => t
  | .fault _ => s
  | .refused _ => s

/-! ### One step at a time -/

/-- 1.11: window end 6. -/
theorem test_sixth_window :
    let s := { mast with wxi := { mast.wxi with
      count := 1, ring := [⟨39, 4, 130⟩, ⟨45, 5, 150⟩, ⟨27, 6, 90⟩, ⟨42, 5, 140⟩, ⟨30, 5, 100⟩] } }
    let w := (after (.sampleWindowEnd 0xD) s).wxi
    w.gust = 150 ∧ w.mean = 102 ∧ w.direction = 4 := by decide

/-- 6.8: the edge at 4985 snaps to 5000. -/
theorem test_marker_snaps :
    let set := { defaultChan with travel := 12000, spacing := 1000, snap := 20, coast := 40 }
    let s := { withDrive { seeking with
        position := 4985, direction := .opening, job := some (.seek 6000), slips := 1 } with
      config := { node.config with ch := { c0 := set, c1 := defaultChan } } }
    ((after (.markerEdge .c0) s).chan .c0).position = 5000 ∧
      ((after (.markerEdge .c0) s).chan .c0).slips = 0 := by decide

/-- 4.11: the four orders at node 21's channel 0 and node 22's vent; groups are wing, floor, face, bay. -/
theorem test_zone_match :
    let window := { defaultChan with zoneBase := 0x2315, zoneMask := 0xFFFF }
    let vent := { defaultChan with zoneBase := 0x2400, zoneMask := 0xFF00 }
    zoneMatch 0x2000 0xF000 window = true ∧ zoneMatch 0x2310 0xFFF0 vent = false ∧
    zoneMatch 0x2479 0xFFFF vent = true ∧ zoneMatch 0x2479 0xFFFF window = false := by decide

/-- R88, R131: a panel press on an idle channel asks for a slot and queues an URGENT claim. -/
theorem test_press_claims :
    let t := after (.panelOpenPress .c0) node
    (t.chan .c0).runState = .waitSlot ∧ (t.claim .c0).state = .claiming ∧
      (t.lin.queue.claim.c0.frame.map TxFrame.urgent) = some true := by decide

/-- R134, R89: the window's end grants the slot and the drive starts. -/
theorem test_window_grants :
    let t := after (.claimWindowEnd .c0) (withClaim (withDrive waitingSlot) claiming)
    (t.claim .c0).state = .held ∧ (t.chan .c0).runState = .starting := by decide

/-- R108, R90: a snap past a SEEK's stop point stops the drive, whose coast allowance is 0. -/
theorem test_snap_past_target :
    let set := { defaultChan with travel := 12000, spacing := 1000, snap := 20, coast := 0 }
    let s := { withDrive { seeking with
        position := 990, direction := .opening, job := some (.seek 998) } with
      config := { node.config with ch := { c0 := set, c1 := defaultChan } } }
    ((after (.markerEdge .c0) s).chan .c0).position = 1000 ∧
      ((after (.markerEdge .c0) s).chan .c0).headed = some .done := by decide

/-- R122: a pulse at the moment of the stall expiry restarts the timer, and the expiry does not happen. -/
theorem test_pulse_before_stall :
    let s := withClaim (withDrive { seeking with stall := some 100000 }) heldClaim
    ((after (.stallTimerExpiry .c0) s).chan .c0).runState = .coasting ∧
    ((after (.stallTimerExpiry .c0) (after (.encoderPulse .c0) s)).chan .c0).runState = .driving := by
  decide

/-- R67: an ORDER entry written at the moment of the old expiry stands. -/
theorem test_rewritten_shut_for :
    let s := after (.orderShutFor 9 fieldsO) node
    (s.table .c0).order.isSome = true ∧
      ((after (.orderExpiry .c0) s).table .c0).order.isSome = true := by decide

/-- R99: a SEVERE level at a channel that opens. -/
theorem test_storm_stops_opening :
    let s := withClaim (withDrive { seeking with direction := .opening, job := some (.seek 9000) }) heldClaim
    let s := { s with
      straps := mast.straps, src := mast.src
      wxi := { Wxi.reset with windowEnd := some 100000, count := 100 } }
    let t := after (.sampleWindowEnd 0) s
    t.held .c0 = .severe ∧ (t.chan .c0).runState = .coasting ∧ (t.chan .c0).headed = some .stopped ∧
      (t.chan .c0).continuation = .none ∧
      ((t.table .c0).weather.map Entry.cls) = some .storm := by decide

/-- R99, R98: a rise to CLOSE cancels the opening that was to follow a dwell; with the key in LOCAL the hand-over
of none ends the dwell at once, STOPPED. -/
theorem test_rise_cancels_opening :
    let s := withClaim (withDrive { seeking with
      runState := .dwell, stall := none, dwell := some 100500
      continuation := .job (.seek 9000) none, standing := some ⟨.panel, .openTo 90, .user, false⟩ }) heldClaim
    let s := { s with
      straps := mast.straps, src := mast.src
      req := { s.req with effective := { c0 := some .panel, c1 := none } }
      wxi := { Wxi.reset with windowEnd := some 100000, count := 45 } }
    let t := after (.sampleWindowEnd 0) s
    let u := after (.sampleWindowEnd 0) { s with pins := { s.pins with keyLocal := true } }
    t.held .c0 = .close ∧ (t.chan .c0).runState = .dwell ∧ (t.chan .c0).continuation = .none ∧
      ((t.chan .c0).standing.map Standing.action) = some .close ∧
      (u.chan .c0).runState = .idle ∧ (u.chan .c0).lastEnd = .stopped := by decide

/-- R83, R84, R99: alone, a rise ends the dwell of channel 0, whose LOCAL slot channel 1 takes at once with its
opening that is now barred; channel 1 still acts on its CLOSE, from IDLE and under the LOCAL slot. -/
theorem test_granted_then_barred :
    let opens : Option Standing := some ⟨.panel, .openTo 90, .user, false⟩
    let s := { withClaim mast { heldClaim with state := .localRun } with
      config := { mast.config with segment := 0, ch1Present := true }
      pins := { mast.pins with ch := { mast.pins.ch with c0 := { mast.pins.ch.c0 with closedLimit := true } } }
      dch := {
        c0 := { seeking with
          position := 0, runState := .dwell, stall := none, dwell := some 100500
          continuation := .job (.seek 9000) none, standing := opens }
        c1 := { seeking with
          runState := .waitSlot, job := some (.seek 5000), direction := .opening, stall := none
          claimedJob := some (.seek 5000), standing := opens } }
      req := { mast.req with effective := { c0 := some .panel, c1 := some .panel } }
      wxi := { Wxi.reset with windowEnd := some 100000, count := 45 } }
    let t := after (.sampleWindowEnd 0) s
    (t.chan .c0).runState = .idle ∧ (t.chan .c0).lastEnd = .stopped ∧ (t.claim .c0).state = .none ∧
      ((t.chan .c1).standing.map Standing.action) = some .close ∧ (t.chan .c1).runState = .starting ∧
      (t.chan .c1).direction = .closing ∧ (t.claim .c1).state = .localRun := by decide

/-- R140: the RELEASE of a claim that never went out is not owed, that of one that did is. -/
theorem test_unheard_release :
    let f : ReleaseFields := { segment := 3, channel := 0, token := 6, outcome := 5 }
    let r := { ClaimRecord.reset with token := 7 }
    (({ r with heard := [5] }).owe (some (.release f))).owedRelease = none ∧
      (({ r with heard := [5] }.hear 6).owe (some (.release f))).owedRelease = some (6, .withdrawn) := by decide

/-- R85: a grant that finds the closed limit active ends the run DONE and releases the slot. -/
theorem test_grant_at_limit :
    let s := withClaim (withDrive waitingSlot) claiming
    let t := after (.claimWindowEnd .c0) (s.setPin .c0 { s.pin .c0 with closedLimit := true })
    (t.chan .c0).lastEnd = .done ∧ (t.chan .c0).position = 0 ∧
      (t.lin.queue.release.c0.frame.map TxFrame.urgent) = some true := by decide

/-- R181: a reset during a store write leaves the store partly written. -/
theorem test_reset_holds : (after .resetN { node with commitState := .writing }).phase = .held ∧
    (after .powerOnReset node).store = node.store := by decide

/-- R158: the node's own address from another sender silences it. -/
theorem test_conflict_silences : (after (.claimFrame 5 fieldsC) node).lin.conflict = true := by decide

/-! ### Witnesses: for each statement with hypotheses, something that meets them, clause by clause -/

/-- Channel 0 seeks under its slot, and a pulse of its encoder waits to be taken. -/
def busy : State := { withClaim (withDrive seeking) heldClaim with pending := [.encoderPulse .c0] }

/-- A node that is isolated by its configuration and runs channel 0 locally. -/
def alone : State :=
  { withClaim (withDrive seeking) { heldClaim with state := .localRun } with
    config := { node.config with segment := 0 }, pending := [.encoderPulse .c0] }

/-- A node held in reset whose store holds a block with its CRC. -/
def blank : List Byte := List.replicate 94 0#8
def stored : State :=
  { State.reset with store := blank ++ [hiByte (crc16 blank), loByte (crc16 blank)] }

/-- The default column of the layout written out as a block, without its CRC (11.3): node fields, source slots,
and the record of a channel. -/
def defaultBytes : List Byte :=
  [0, 160, 0, 1, 2, 12, 5, 2, 0, 80, 0, 140, 0, 200, 0, 50, 15, 45, 25, 1, 0, 1, 60, 2, 0, 1]
    ++ [0, 0, 255, 0, 255, 0, 255, 0, 255, 0, 255, 0, 255, 0, 255, 0] ++ chanBytes ++ chanBytes
where
  chanBytes : List Byte :=
    [0, 0, 16, 0, 0, 0, 0, 0, 253, 232, 20, 1, 144, 1, 244, 1, 244, 0, 0, 4, 1, 44, 0, 200, 20, 160]

/-- A node that calibrates both channels, and one that has none to calibrate. -/
def calibrating : State := { node with phase := .calibrating, calLeft := [.c0, .c1] }
def listening : State := { mast with phase := .listenIn }

/-- A queue with one frame in a place. -/
def sends (p : Place) (f : TxFrame) : State :=
  { node with lin := { Lin.reset with round := true, queue := TxQueue.reset.put p { frame := some f, successor := none } } }

/-- The same with the attempt under way. -/
def attempts (p : Place) (f : TxFrame) : State :=
  { sends p f with lin := { (sends p f).lin with round := false, attempt := some p } }

/-- A store write in progress at a node with the commissioning strap. -/
def writing : State :=
  { node with
    straps := { address := 5, roleCode := 0, commissioning := true }, commitState := .writing }

/-- A latched threat record under a running hold. -/
def latched : State :=
  { node with
    thr := { c0 := { raw := .watch, held := .severe, hold := some 100000, latch := true }, c1 := .reset } }

theorem witness_StepTakesFrontCommand : busy.pending = .encoderPulse .c0 :: [] := by decide

theorem witness_IdleStepKeepsTheTime : node.pending = [] ∧ node.due = [] ∧
    { node with rep := { node.rep with interval := some 100000 } }.due
      = Instr.statusIntervalExpiry :: [] := by decide

/-- An expiry whose moment has come and one whose moment has not (IdleStepKeepsTheTime). -/
theorem witness_TimeFor :
    { node with rep := { node.rep with interval := some 100000 } }.TimeFor .statusIntervalExpiry ∧
    ¬ { node with rep := { node.rep with interval := some 100001 } }.TimeFor .statusIntervalExpiry :=
  ⟨⟨100000, rfl, Nat.le_refl _⟩, fun ⟨m, h, hm⟩ => by cases h; exact absurd hm (by decide)⟩

theorem witness_ConfigurationStaysFixed :
    (exec .ackPress node = .next (after .ackPress node) ∧ ¬ Instr.ackPress.isReset) ∧
    node.phase ≠ .held ∧ (∀ b, Instr.ackPress ≠ .storeWriteEnd b) ∧ node.commitState = .idle :=
  ⟨⟨rfl, by simp [Instr.isReset]⟩, by decide, by simp, by decide⟩

theorem witness_step : step busy = .next (after (.encoderPulse .c0) { busy with pending := [] }) := rfl

theorem witness_drive_laws : busy.DrivesUnderSlot ∧ busy.NeverOpensUnderThreat ∧
    busy.NeverClosesOnEdge ∧ busy.PositionsInTravel ∧ busy.SeeksKnown ∧ busy.CountsBounded := by
  refine ⟨?_, ?_, ?_, ?_, ?_, ?_⟩ <;> intro c <;> cases c <;> decide

theorem witness_threat_laws : busy.HeldCoversRaw ∧ busy.FollowNeverLatches ∧
    busy.WeatherFollowsHeld := by
  refine ⟨?_, ?_, ?_⟩ <;> intro c <;> cases c <;> decide

theorem witness_opens : busy.OpensObeyThreat := by
  intro c; cases c <;> exact ⟨fun o e p h => (by cases o <;> cases h), by decide⟩

theorem witness_tables : busy.TableBounded ∧ busy.CapacityBounded ∧ busy.ArrivalsDistinct ∧
    busy.AttemptsBounded :=
  ⟨⟨by decide, by decide⟩, fun _ => by decide, ⟨by decide, by decide, by decide⟩,
    fun p f h => by cases p with
      | claim c => cases c <;> cases h
      | release c => cases c <;> cases h
      | weather => cases h
      | report => cases h
      | order => cases h⟩

theorem witness_figures : busy.FiguresInRange := by
  refine ⟨?_, by decide, by decide, ?_, ?_⟩
  · unfold Wxi.InRange; decide
  · intro e h; cases h
  · decide

theorem witness_local : alone.LocalStandsAlone ∧
    step alone = .next (after (.encoderPulse .c0) { alone with pending := [] }) :=
  ⟨fun c => by cases c <;> decide, rfl⟩

theorem witness_ChannelsActAlone : (Instr.encoderPulse .c0).ofChannel = some .c0 ∧
    busy.isolated = false ∧ exec (.encoderPulse .c0) busy = .next (after (.encoderPulse .c0) busy) :=
  ⟨by decide, by decide, rfl⟩

theorem witness_frames : Addr.isStation 1 = true ∧ Addr.isStation 62 = true ∧
    (List.replicate 3 (0 : Byte)).length = FrameKind.configCommit.length ∧
    (List.replicate 18 (0 : Byte)).length = FrameKind.report.length := by decide

/-- Node 9's RELEASE of the storm example (9.5), its CRC worked out by R167 outside the model, is read, and so it is
with the two high bits of SOURCE set. -/
theorem test_release_is_read :
    checkFrame [0x5A, 0x10, 0x09, 4, 3, 0, 7, 4, 0x45, 0x9E] = some (.releaseFrame 9 ⟨3, 0, 7, 4⟩) ∧
    checkFrame [0x5A, 0x10, 0xC9, 4, 3, 0, 7, 4, 0xFB, 0xAE] = some (.releaseFrame 9 ⟨3, 0, 7, 4⟩) := by
  decide +kernel

/-- The same frame with each of the defects of R157 is discarded: SYNC, KIND, LENGTH, too few bytes, the payload
against the CRC, the CRC's bytes exchanged, and the sources 0 and 63 under a right CRC. -/
theorem test_damaged_frames_are_discarded :
    [[0x5B, 0x10, 0x09, 4, 3, 0, 7, 4, 0x45, 0x9E], [0x5A, 0x13, 0x09, 4, 3, 0, 7, 4, 0x45, 0x9E],
      [0x5A, 0x10, 0x09, 5, 3, 0, 7, 4, 0x45, 0x9E], [0x5A, 0x10, 0x09, 4, 3, 0, 7, 4, 0x45], [0x5A, 0x10, 0x09],
      [0x5A, 0x10, 0x09, 4, 3, 0, 6, 4, 0x45, 0x9E], [0x5A, 0x10, 0x09, 4, 3, 0, 7, 4, 0x9E, 0x45],
      [0x5A, 0x10, 0x00, 4, 3, 0, 7, 4, 0x0D, 0x7C], [0x5A, 0x10, 0x3F, 4, 3, 0, 7, 4, 0xE7, 0xF3]].map checkFrame
    = List.replicate 9 none := by decide +kernel

theorem witness_ResetsHoldTheNode : Instr.resetN.isReset ∧ node.commitState = .idle ∧
    writing.commitState = .writing := ⟨.inr rfl, by decide, by decide⟩

theorem half_at_end (x : Half) : halfAt (blank ++ [hiByte x, loByte x]) 94 = x.toNat := by
  have h := x.isLt
  simp [halfAt, byteAt, blank, hiByte, loByte, List.getD, BitVec.extractLsb'_toNat]
  omega

theorem witness_sound_block : stored.phase = .held ∧ stored.storeTorn = false ∧
    stored.store.length = 96 ∧ (crc16 (stored.store.take 94)).toNat = halfAt stored.store 94 :=
  ⟨rfl, rfl, rfl, (half_at_end (crc16 blank)).symm⟩

theorem witness_unsound_block : { stored with storeTorn := true }.storeTorn ≠ false ∧
    node.phase ≠ .held := by decide

/-- 11.3 and R183: the default column decodes to the default block, and raises no flag. -/
theorem test_default_column_decodes :
    decodeBlock 5 defaultBytes = { value := defaultSettings, flag := false } := by decide +kernel

/-- R183, R106, R124, R21: each exception to the nearer bound, in a block of its own, and the flag it raises. -/
theorem test_decoded_exceptions :
    let d := fun k x => decodeBlock 5 (defaultBytes.set k x)
    (d 20 16).value.segment = 0 ∧ (d 20 16).flag = true ∧ (d 23 8).value.outSource = .fault ∧
    (d 60 15).value.ch.c0.spacing = 16 ∧ (d 60 15).flag = true ∧ (d 61 3).flag = false ∧
    (decodeBlock 5 ((defaultBytes.set 60 16).set 61 5)).value.ch.c0.snap = 4 ∧
    (d 28 5).value.sources[1]? = some emptySlot ∧ (d 28 5).flag = true ∧
    (d 28 0).value.sources[1]? = some emptySlot ∧ (d 28 0).flag = true ∧
    (d 8 255).value.gWatch = 999 ∧ (d 18 101).value.watchLimit = 100 := by decide

/-- R37: thresholds stored out of order stand as stored through calibration, and the load raises them, with the
config-fault flag; equal ones stay and set none. -/
theorem test_load_raises_thresholds :
    let s := fun w c v : Nat => { calibrating with
      calLeft := [.c1], config := { calibrating.config with gWatch := w, gClose := c, gSevere := v } }
    let t := fun w c v : Nat => after (.calibrationEnd .c1 0) (s w c v)
    (decodeBlock 5 ((defaultBytes.set 9 150).set 13 100)).value.gClose = 140 ∧
    (decodeBlock 5 ((defaultBytes.set 9 150).set 13 100)).flag = false ∧
    (t 150 140 100).config.gClose = 150 ∧ (t 150 140 100).config.gSevere = 150 ∧
    (t 150 140 100).configFault = true ∧ (t 140 140 140).config.gClose = 140 ∧
    (t 140 140 140).configFault = false := by decide

theorem witness_CalibrationJudgesTheOffset : calibrating.phase = .calibrating ∧
    .c0 ∈ calibrating.calLeft ∧ calibrating.calLeft.erase .c0 ≠ [] ∧ (31#8).toNat < 32 ∧
    32 ≤ (32#8).toNat := by decide

theorem witness_LoadBeginsTheListenIn :
    let last := { calibrating with calLeft := [.c1] }
    let sense := { calibrating with calLeft := [], straps := { address := 5, roleCode := 1, commissioning := false } }
    last.phase = .calibrating ∧ last.calLeft = [.c1] ∧ sense.phase = .calibrating ∧ sense.calLeft = [] ∧
    (after (.calibrationEnd .c1 0) last).driveActive = true ∧
    (after (.calibrationEnd .c1 0) sense).driveActive = false ∧
    (after (.calibrationEnd .c1 0) sense).wxiActive = true ∧
    (after (.calibrationEnd .c1 0) { last with config := { last.config with sources := [] } }).wxiActive
      = false ∧
    last.config.startHome = true ∧ (last.pin .c0).closedLimit = false ∧ (last.chan .c0).runState = .idle ∧
    last.lin.conflict = false := by decide

theorem witness_ListenInEndFormsThePicture : node.phase ≠ .listenIn ∧ listening.phase = .listenIn ∧
    listening.driveActive = true ∧
    { listening with straps := { listening.straps with roleCode := 1 } }.driveActive = false := by decide

/-- Both channels wait at the end of the listen-in, and no held level changes: outside isolated operation each has
its claim, and in it channel 0 runs LOCAL (ListenInEndFormsThePicture; R131, R141). -/
theorem witness_listen_in_claims :
    let both := { listening with
      dch := { c0 := waitingSlot, c1 := waitingSlot }
      config := { listening.config with failSafe := .calm } }
    let lone := { both with config := { both.config with segment := 0 } }
    let t := after .listenInEnd both
    let u := after .listenInEnd lone
    both.isolated = false ∧ both.present .c0 = true ∧ both.present .c1 = true ∧
    (both.claim .c0).state = .none ∧ both.lin.conflict = false ∧ both.lin.attempt = none ∧
    (both.chan .c0).job = some (.seek 1000) ∧ movement 2000 (.seek 1000) none = some .closing ∧
    (both.pin .c0).closedLimit = false ∧ (both.pin .c0).edge = false ∧ both.energised .c1 = false ∧
    t.held .c0 = both.held .c0 ∧ t.held .c1 = both.held .c1 ∧
    (t.claim .c0).state = .claiming ∧ (t.claim .c0).token = 1 ∧ (t.claim .c1).token = 2 ∧
    lone.isolated = true ∧ u.held .c0 = lone.held .c0 ∧ u.held .c1 = lone.held .c1 ∧
    (u.claim .c0).state = .localRun ∧ (u.claim .c1).state = .none := by decide

theorem witness_WindowsMeasureTheWind : node.wxi.windowEnd = none ∧ mast.wxiActive = true ∧
    mast.wxi.windowEnd.isSome = true ∧ mast.wxi.windOk = true ∧
    { mast with wxi := { mast.wxi with windOk := false } }.wxi.windOk = false ∧ (15 : Nat) < 16 ∧
    mast.publishes = true ∧ mast.wxi.periodic ≤ 1 ∧ mast.wxi.pub ≠ .sending ∧ mast.lin.conflict = false ∧
    mast.lin.attempt ≠ some .weather ∧
    { mast with wxi := { mast.wxi with pub := .sending } }.wxi.pub = .sending := by decide

theorem witness_RainInputsCount : mast.wxiActive = true ∧ mast.config.rainMode = .event ∧
    true = mast.config.rainRising ∧ gated.wxiActive = true ∧ gated.config.rainMode = .gated ∧
    gated.pins.rainHigh ≠ gated.config.wetHigh ∧
    (let wet := { gated with pins := { gated.pins with rainHigh := true } }
     wet.pins.rainHigh = wet.config.wetHigh) ∧
    (let early := { mast with wxi := { mast.wxi with prevEdge := some 99751 } }
     early.wxi.prevEdge = some 99751 ∧ early.now - 99751 < 250) ∧
    (let late := { mast with wxi := { mast.wxi with prevEdge := some 99750 } }
     late.wxi.prevEdge = some 99750 ∧ 250 ≤ late.now - 99750) := by decide

theorem witness_RainHealthFollowsItsTimers : gated.wxiActive = true ∧ gated.config.rainMode = .gated ∧
    true ≠ gated.pins.rainHigh ∧ ¬ (false ≠ gated.pins.rainHigh) ∧
    gated.dueAt (some 100000) = true ∧ gated.dueAt (some 100001) = false := by decide

theorem witness_hears : node.Hears 9 ∧ mast.Hears 1 ∧ writing.Hears 62 :=
  ⟨⟨by decide, by decide, by decide⟩, ⟨by decide, by decide, by decide⟩,
    ⟨by decide, by decide, by decide⟩⟩

theorem witness_SourcesFollowTheirFrames :
    let e : SourceEntry := { address := 9, tier := .second, status := .live, obs := .reset
                             lastSeq := some 1, acceptedAt := some 90000 }
    let s := { mast with src := { mast.src with entries := [e] } }
    s.driveActive = true ∧ s.src.entries[0]? = some e ∧ e.address = (9#6).toNat ∧ e.status = .live ∧
      e.lastSeq ≠ some fieldsW.sequence.toNat ∧
    { e with acceptedAt := some 55000 }.acceptedAt = some 55000 ∧
      55000 + s.config.tStale * 1000 ≤ s.now ∧ ¬ 55001 + s.config.tStale * 1000 ≤ s.now := by decide

theorem witness_PictureTakesTheBestTier :
    let e : SourceEntry := { address := 9, tier := .second, status := .live
                             obs := { Observation.reset with windOk := true, gust := 150 }
                             lastSeq := some 1, acceptedAt := some 90000 }
    (pictureOf [e] true).windSource = .second ∧ (pictureOf [e] true).rainSource = .lost ∧
    (pictureOf [{ e with tier := .first }] true).windSource = .first ∧
    (pictureOf [{ e with obs := { e.obs with rainOk := true } }] true).rainSource = .second ∧
    (pictureOf [{ e with tier := .first, obs := { e.obs with rainOk := true } }] true).rainSource = .first
    := by decide

theorem witness_WindLevelOfAGust : effectiveGust 200 16 = 200 ∧ effectiveGust 140 16 = 140 ∧
    effectiveGust 80 16 = 80 ∧ effectiveGust 79 16 = 79 ∧ effectiveGust 999 32 = 999 ∧
    windLevel defaultSettings 199 = .close ∧ windLevel defaultSettings 139 = .watch ∧
    (let p := { Picture.reset with rainSource := .first }
     p.rainSource ≠ .lost ∧ p.rain = .dry ∧ p.gust = 0 ∧ defaultChan.weight = 16) := by decide

theorem witness_RainLevelOfAPicture : drivenRain 50 255 0 = 50 ∧ drivenRain 49 0 0 = 49 ∧
    rainLevel defaultSettings { defaultChan with kind := .window } { Picture.reset with rain := .rain, mean := 50 }
      = .close ∧ defaultChan.kind = .skylight ∧ (15 : Nat) < 16 ∧
    (let p := { Picture.reset with windSource := .first }
     p.windSource ≠ .lost ∧ windLevel defaultSettings (effectiveGust p.gust defaultChan.weight) = .calm)
    := by decide

theorem witness_HeldLevelFollowsTheRaw :
    let r : Threat := { raw := .calm, held := .close, hold := none, latch := false }
    r.held.rank < Level.severe.rank ∧ r.held.rank = Level.close.rank ∧ Level.watch.rank < r.held.rank ∧
    r.hold = none ∧ { r with hold := some 5 }.hold.isSome = true ∧ { r with latch := true }.latch = true
    := by decide

theorem witness_HoldExpiryReleases : State.reset.present .c0 = false ∧
    node.dueAt (node.thr.get .c0).hold = false ∧
    latched.present .c0 = true ∧ latched.dueAt (latched.thr.get .c0).hold = true := by decide

theorem witness_UnlatchesClearLatches : (latched.thr.get .c0).latch = true ∧
    latched.present .c0 = true ∧ (latched.thr.get .c1).latch = false := by decide

theorem witness_InZone : node.InZone fieldsO .c0 := ⟨by decide, by decide⟩

theorem witness_FaultResetsClearFaults :
    let blocked := { seeking with runState := .blocked, failures := 2, fault := .pinch }
    let s := withDrive { blocked with runState := .fault, fault := .cal }
    s.present .c0 = true ∧ (s.chan .c0).runState = .fault ∧ (s.chan .c0).fault = .cal ∧
    ((withDrive blocked).chan .c0).runState = .blocked ∧ node.supply.status = .good ∧
    { node with supply := { status := .low, qualify := none } }.supply.status ≠ .good ∧
    (busy.chan .c0).runState.energised = true ∧ (node.chan .c0).runState = .idle ∧
    (busy.chan .c0).retriedAt ≠ some busy.now ∧
    (let again := withClaim (withDrive { seeking with retriedAt := some 100000 }) heldClaim
     (again.chan .c0).runState.drivingJob = true ∧ (again.chan .c0).retriedAt = some again.now) := by decide

theorem witness_retried :
    let s := withClaim (withDrive { seeking with retriedAt := some 100000 }) heldClaim
    s.NeverOpensUnderThreat ∧ s.HeldCoversRaw := by
  refine ⟨?_, ?_⟩ <;> intro c <;> cases c <;> decide

theorem witness_PanelPressesWriteTheirEntry : State.reset.present .c0 = false ∧ busy.present .c0 = true ∧
    (busy.chan .c0).runState = .driving ∧ (busy.chan .c0).direction = .closing ∧
    (let s := withDrive { seeking with direction := .opening }
     (s.chan .c0).runState = .driving ∧ (s.chan .c0).direction = .opening) ∧
    node.dueAt ((node.table .c0).order.bind Entry.expiry) = false ∧
    (let s := { after (.orderShutFor 9 fieldsO) node with now := 100000 + 50 * 60000 }
     s.present .c0 = true ∧ s.dueAt ((s.table .c0).order.bind Entry.expiry) = true) := by decide

theorem witness_ZoneCloseClosesTheZone : State.reset.present .c0 = false ∧ node.present .c0 = true ∧
    node.lin.conflict = false ∧ node.lin.attempt ≠ some .order ∧
    (let s := attempts .order ⟨true, 0, 0, some (.order 1 fieldsO)⟩
     s.lin.attempt = some .order ∧ s.lin.queue.order.frame.isSome = true ∧ s.lin.conflict = false) := by
  decide

theorem witness_KeySwitchHandsOver : true ≠ node.pins.keyLocal ∧ false = node.pins.keyLocal ∧
    node.present .c0 = true := by decide

theorem witness_drives_under_slot : node.DrivesUnderSlot := by intro c; cases c <;> decide

theorem witness_EffectiveRequestIsTheBest : node.effectiveEntry .c0 = none ∧
    ((after (.panelClosePress .c0) node).effectiveEntry .c0).isSome = true := by decide

theorem witness_WrittenEntriesAreNewest :
    let s := { node with req := { node.req with arrival := 65535 } }
    s.ArrivalsDistinct ∧ node.ArrivalsDistinct :=
  ⟨⟨by decide, by decide, by decide⟩, ⟨by decide, by decide, by decide⟩⟩

theorem witness_PulsesMoveTheCounter : State.reset.present .c0 = false ∧ busy.present .c0 = true ∧
    (busy.chan .c0).runState ≠ .idle ∧ (busy.chan .c0).runState ≠ .dwell ∧
    ((withDrive (coastingTo .done)).chan .c0).runState = .coasting := by decide

theorem witness_PulsesServeTheStopPoints : busy.present .c0 = true ∧
    (busy.chan .c0).runState.drivingJob = true ∧
    (let s := withDrive { seeking with position := 1021 }
     (s.chan .c0).seekTarget = some 1000 ∧ s.pulsed .c0 ≤ 1000 + (s.setting .c0).coast) ∧
    (let s := withDrive { homing with travelCount := 9000 }
     isHoming (s.chan .c0).job (s.chan .c0).part = true ∧ (s.chan .c0).direction = .closing ∧
      (s.chan .c0).travelBudget < min 130000 ((s.chan .c0).travelCount + 1)) ∧
    (busy.chan .c0).seekTarget = some 1000 ∧ ¬ busy.pulsed .c0 ≤ 1000 + (busy.setting .c0).coast ∧
    (busy.setting .c0).spacing = 0 ∧
    (let set := { defaultChan with spacing := 1000, snap := 20 }
     let s := { withDrive { seeking with position := 1980, slips := 1 } with
       config := { node.config with ch := { c0 := set, c1 := set } } }
     2000 = s.pulsed .c0 + set.snap + 1 ∧ 2000 % set.spacing = 0 ∧ 2000 < (s.setting .c0).travel ∧
      2000 ∉ (s.chan .c0).passed ∧ (s.chan .c0).known = true ∧ (s.chan .c0).pinched = false ∧
      1 ≤ (s.chan .c0).slips ∧ (busy.chan .c0).slips = 0 ∧
      ¬ s.pulsed .c0 ≤ 1000 + (s.setting .c0).coast) ∧
    (let s := withDrive { seeking with runState := .backoff, direction := .opening }
     (s.chan .c0).runState = .backoff ∧ (s.chan .c0).direction = .opening ∧ s.present .c0 = true) := by
  decide

theorem witness_DriveTimersFollowTheDrive :
    let s := withClaim (withDrive { seeking with
      runState := .starting, rampMid := some 100000, rampEnd := some 100000 }) heldClaim
    s.present .c0 = true ∧ (s.chan .c0).runState = .starting ∧ s.dueAt (s.chan .c0).rampMid = true ∧
    s.dueAt (s.chan .c0).rampEnd = true ∧ (s.chan .c0).runState.energised = true ∧
    (let threshold := min 255 ((s.setting .c0).overcurrent + (s.chan .c0).calOffset)
     threshold < (200#8).toNat ∧ ¬ threshold < (160#8).toNat) := by decide

theorem witness_FailuresSwitchTheDriverOff :
    let s := withDrive { seeking with overrunMs := 10000, stall := some 100000, overcurrent := some 100000 }
    s.present .c0 = true ∧ (s.chan .c0).estimate = some 5 ∧ 2000 * 5 ≤ (s.chan .c0).overrunMs ∧
    s.dueAt (s.chan .c0).stall = true ∧ s.dueAt (s.chan .c0).overcurrent = true ∧
    (s.pin .c0).edge = false ∧ (s.chan .c0).direction = .closing := by decide

theorem witness_LimitsEndDrives : true ≠ (busy.pin .c0).closedLimit ∧ busy.present .c0 = true ∧
    (busy.chan .c0).direction = .closing ∧ (busy.chan .c0).runState.drivingJob = true ∧
    (busy.chan .c0).known = true ∧ false = (busy.pin .c0).closedLimit ∧
    ((withDrive (coastingTo .done)).chan .c0).runState = .coasting ∧
    (let ch := { homing with job := some (.homeThenSeek 1000), part := some .homePart }
     ch.job = some (.homeThenSeek 1000) ∧ ch.part = some .homePart) ∧
    (∀ target, (busy.chan .c0).job ≠ some (.homeThenSeek target)) :=
  ⟨by decide, by decide, by decide, by decide, by decide, by decide, by decide, by decide, fun _ h => by cases h⟩

theorem witness_CoastsEndTheRun : node.present .c0 = true ∧
    node.dueAt (coastingTo .done).coast = true ∧ node.dueAt (some 100001) = false ∧
    ((withDrive (coastingTo (.fault .pinch))).chan .c0).runState = .coasting ∧
    (coastingTo (.fault .pinch)).continuation = .none ∧
    (coastingTo (.fault .pinch)).headed = some (.fault .pinch) ∧
    (coastingTo .supply).headed = some .supply ∧ (coastingTo .done).headed = some .done ∧
    node.supply.status = .good ∧
    { node with supply := { status := .low, qualify := none } }.supply.status ≠ .good ∧
    (let ch := { coastingTo .done with continuation := .job (.seek 5000) none }
     ch.continuation = .job (.seek 5000) none ∧ movement ch.position (.seek 5000) none = some .opening ∧
      Dir.opening ≠ ch.direction) ∧
    (let s := withClaim (withDrive { coastingTo (.fault .pinch) with continuation := .backoff }) heldClaim
     (s.chan .c0).continuation = .backoff ∧ 0 < (s.setting .c0).backoff ∧ s.slotInForce .c0 = true) ∧
    (withDrive { coastingTo (.fault .pinch) with continuation := .backoff }).slotInForce .c0 = false ∧
    heldClaim.state = .held ∧ alone.isolated = true := by decide

theorem witness_DrivesGoOnUnderTheirClaim :
    let ch := { seeking with
      runState := .dwell, dwell := some 100000, stall := none, continuation := .job (.seek 5000) none }
    let s := withClaim (withDrive ch) heldClaim
    s.present .c0 = true ∧ (s.chan .c0).runState = .dwell ∧ s.dueAt (s.chan .c0).dwell = true ∧
    s.dueAt (coastingTo .done).coast = true ∧ (s.chan .c0).headed = none ∧
    (coastingTo .supply).headed = some .supply ∧ (coastingTo .done).headed = some .done ∧
    (let x : Standing := ⟨.panel, .openTo 50, .user, false⟩
     let j : Job := .seek 32500
     x.satisfied = false ∧ chooseJob true 65000 x.action = some j ∧
      movement 2000 j j.firstPart = some .opening ∧ seeking.job ≠ some j ∧ seeking.direction ≠ .opening ∧
      heldClaim.current = some ⟨.user, 5⟩ ∧ heldClaim.state = .held ∧ s.isolated = false ∧
      s.lin.conflict = false ∧ s.lin.attempt ≠ some (.claim .c0) ∧ (s.setting .c0).travel = 65000) ∧
    movement (s.chan .c0).position (.seek 5000) none = some .opening ∧ s.slotInForce .c0 = true ∧
    (s.pin .c0).openLimit = false ∧ (s.held .c0).shut = false ∧
    movement (s.chan .c0).position (.seek 1000) none = some .closing ∧
    (s.pin .c0).closedLimit = false ∧ (s.pin .c0).edge = false ∧
    { s.pin .c0 with edge := true }.edge = true ∧
    (withDrive (coastingTo .done)).chan .c0 = coastingTo .done ∧ State.reset.present .c0 = false := by
  decide

/-- A dwell ends before a closing movement with the closed limit active, alone and under its LOCAL slot: a CLOSE
rests at 0 and the run ends; an OPEN that was satisfied at the old counter is not at 0, and its run starts in the
same command (DrivesGoOnUnderTheirClaim; R85, R84, R88, R141). -/
theorem witness_limit_at_dwell_end :
    let s := fun (a : Machine.Action) (k : Nat) =>
      let ch : Channel := { seeking with
        position := 660, runState := .dwell, stall := none, dwell := some 100000
        continuation := .job (.seek k) none, standing := some ⟨.panel, a, .user, true⟩ }
      let u := (alone.setChan .c0 ch).setPin .c0 { alone.pin .c0 with closedLimit := true }
      u.setTable .c0 { u.table .c0 with panel := some ⟨a, .user, 0, none⟩ }
    let z := fun (a : Machine.Action) => (s a 650).setChan .c0 { (s a 650).chan .c0 with position := 0, known := true }
    (s .close 650).present .c0 = true ∧ (s .close 650).isolated = true ∧
    (s .close 650).dueAt ((s .close 650).chan .c0).dwell = true ∧
    movement 660 (.seek 650) none = some .closing ∧ (z .close).effectiveEntry .c0
      = some (.panel, ⟨.close, .user, 0, none⟩) ∧ (z .close).satisfied .c0 .close = true ∧
    (s (.openTo 1) 650).satisfied .c0 (.openTo 1) = true ∧
    (z (.openTo 1)).satisfied .c0 (.openTo 1) = false ∧
    ((after (.dwellEnd .c0) (s .close 650)).chan .c0).runState = .idle ∧
    ((after (.dwellEnd .c0) (s .close 650)).chan .c0).position = 0 ∧
    ((after (.dwellEnd .c0) (s (.openTo 1) 650)).chan .c0).runState = .starting ∧
    ((after (.dwellEnd .c0) (s (.openTo 1) 650)).chan .c0).position = 0 ∧
    ((after (.dwellEnd .c0) (s (.openTo 1) 650)).claim .c0).state = .localRun := by decide

theorem witness_MotorSupplyIsFollowed : node.driveActive = true ∧ node.supply.status ≠ .low ∧
    State.reset.driveActive = false ∧ node.present .c0 = true ∧
    (busy.chan .c0).runState.energised = true ∧
    ((withDrive waitingSlot).chan .c0).runState = .waitSlot ∧
    (let s : Supply := { status := .recovering, qualify := some 100000 }
     s.status = .recovering ∧ node.dueAt s.qualify = true) ∧
    (coastingTo .done).continuation = .none ∧
    { coastingTo .done with continuation := .backoff }.continuation ≠ .none := by decide

theorem witness_MarkersCorrectTheCounter :
    let set := { defaultChan with spacing := 1000, snap := 20 }
    let s := { withDrive seeking with config := { node.config with ch := { c0 := set, c1 := set } } }
    let ch := s.chan .c0
    s.present .c0 = true ∧ (s.setting .c0).spacing ≠ 0 ∧ ch.known = true ∧ ch.pinched = false ∧
    ch.runState = .driving ∧ ch.slips = 0 ∧ 1 ≤ { ch with slips := 1 }.slips ∧
    1000 * ((2 * ch.position + 1000) / (2 * 1000)) = 2000 ∧
    1000 * ((2 * 2020 + 1000) / (2 * 1000)) = 2000 ∧ ¬ 2021 ≤ 2000 + (s.setting .c0).snap ∧
    (node.setting .c0).spacing = 0 ∧ (coastingTo .done).runState = .coasting ∧
    (let near := { ch with job := some (.seek 2020) }
     near.seekTarget = some 2020 ∧ 2020 ≤ 2000 + (s.setting .c0).coast) := by decide

theorem witness_RetriesReturnToIdle :
    let s := withDrive { Channel.reset with
      runState := .blocked, failures := 1, fault := .pinch, retry := some 100000 }
    s.present .c0 = true ∧ (s.chan .c0).runState = .blocked ∧ s.dueAt (s.chan .c0).retry = true ∧
    { s with supply := { status := .low, qualify := none } }.supply.status ≠ .good ∧
    (let asks := fun (a : Machine.Action) (known : Bool) =>
       withDrive { Channel.reset with
         position := 2000, known := known, standing := some ⟨.panel, a, .user, false⟩ }
     let s := asks (.openTo 50) true
     s.present .c0 = true ∧ (s.chan .c0).runState = .idle ∧ (s.chan .c0).position < 50 * 65000 / 100 ∧
      (s.pin .c0).openLimit = false ∧ (s.held .c0).shut = false ∧ (s.pin .c0).closedLimit = false ∧
      s.supply.status = .good ∧ (s.claim .c0).state = .none ∧ s.phase = .running ∧ s.isolated = false ∧
      s.lin.conflict = false ∧ s.lin.attempt ≠ some (.claim .c0) ∧
      ((asks (.openTo 0) true).chan .c0).known = true ∧ 0 * 65000 / 100 < 2000 ∧
      ((asks (.openTo 50) false).chan .c0).known = false ∧ (alone.isolated = true) ∧
      ((asks .close false).chan .c0).standing = some ⟨.panel, .close, .user, false⟩) := by decide

/-- A channel in WAIT_SLOT before a hand-over: its CLAIM unsent, on the line, announced, or waiting for its retry
(RetriesReturnToIdle; R88, R132, R133). -/
theorem witness_wait_hand_overs :
    let f : TxFrame := ⟨true, 0, 0, some (.claim { fieldsC with token := 7 })⟩
    let unsent := withClaim { sends (.claim .c0) f with dch := { c0 := waitingSlot, c1 := .reset } }
      { claiming with announced := false, window := none, completion := none }
    let onLine := { unsent with lin := { unsent.lin with attempt := some (.claim .c0) } }
    let open' := withClaim (withDrive waitingSlot) claiming
    let retry := withClaim open' { claiming with state := .waiting, window := none }
    let gone := fun s : State => (s.handOver .c0 none).1
    (unsent.chan .c0).runState = .waitSlot ∧ (unsent.claim .c0).announced = false ∧
    unsent.lin.conflict = false ∧ unsent.lin.attempt = none ∧
    (f.content.bind Content.claim?).map ClaimFields.token = some (BitVec.ofNat 8 claiming.token) ∧
    (gone unsent).lin.queue.claim.c0 = .reset ∧ (gone unsent).lin.queue.release.c0 = .reset ∧
    (gone onLine).lin.queue.claim.c0.frame = some f ∧ (gone onLine).lin.queue.release.c0.frame.isSome = true ∧
    (open'.claim .c0).announced = true ∧ (gone open').lin.queue.release.c0.frame.isSome = true ∧
    ((gone open').claim .c0).window = none ∧ ((gone retry).claim .c0).state = .none ∧
    ((unsent.handOver .c0 (some ⟨.order, .close, .building, false⟩)).1.chan .c0).job = some .home ∧
    (((unsent.handOver .c0 (some ⟨.order, .close, .building, false⟩)).1.claim .c0).announcedVals.map
      ClaimVals.cls) = some .building := by decide

theorem witness_counts :
    (withDrive { Channel.reset with
      runState := .blocked, failures := 1, fault := .pinch, retry := some 100000 }).CountsBounded := by
  intro c; cases c <;> decide

theorem witness_RunTableFollowsTheSegment : node.driveActive = true ∧ node.config.segment ≠ 0 ∧
    fieldsC.segment.toNat = node.config.segment ∧ fieldsC.channel.toNat = chanNat .c0 ∧
    fieldsC.cls.toNat = Machine.Class.storm.rank ∧ fieldsC.renew = 0 ∧ node.rsu.table.length < 16 ∧
    (busy.claim .c0).state = .held ∧ (busy.claim .c0).vals.cls.rank < 3 ∧
    (List.range 16).length = 16 ∧
    (let t := after (.claimFrame 9 fieldsC) node
     ∃ x ∈ t.rsu.table, x.key = ((9#6).toNat, .c0)) := by decide

theorem witness_ClaimsAreDecided :
    let s := withClaim (withDrive waitingSlot) claiming
    s.present .c0 = true ∧ s.dueAt (s.claim .c0).window = true ∧ (s.claim .c0).state = .claiming ∧
    s.rsu.table = [] ∧ 0 < s.rsu.working ∧ { s.rsu with working := 0 }.working ≤ 0 ∧
    (s.chan .c0).runState = .waitSlot ∧ (s.chan .c0).job = some (.seek 1000) ∧
    movement (s.chan .c0).position (.seek 1000) (s.chan .c0).part = some .closing ∧
    (s.pin .c0).closedLimit = false ∧ (s.pin .c0).edge = false ∧
    (s.lin.queue.get (.claim .c0)).frame = none ∧ (s.lin.queue.get (.release .c0)).frame = none ∧
    (let w := withClaim s { claiming with
        state := .waiting, window := none, retry := some 100000, stagger := some 100000 }
     w.dueAt (w.claim .c0).retry = true ∧ w.dueAt (w.claim .c0).stagger = true ∧
      w.dueAt (w.claim .c0).window = false ∧ (w.claim .c0).state = .waiting) ∧
    node.dueAt (node.claim .c0).stagger = false ∧ node.dueAt (node.claim .c0).retry = false := by decide

/-- The grants of ClaimsAreDecided that end at once: on a limit, a held level, an edge, its own target. -/
theorem witness_ended_grants :
    let s := withClaim (withDrive waitingSlot) claiming
    let up := withClaim (withDrive { waitingSlot with job := some (.seek 3000) }) claiming
    s.isolated = false ∧ s.lin.conflict = false ∧ s.lin.queue.get (.claim .c0) = .reset ∧
    s.lin.queue.get (.release .c0) = .reset ∧
    ((s.setPin .c0 { s.pin .c0 with closedLimit := true }).pin .c0).closedLimit = true ∧
    ((s.setPin .c0 { s.pin .c0 with edge := true }).pin .c0).closedLimit = false ∧
    movement (up.chan .c0).position (.seek 3000) none = some .opening ∧
    ((up.setPin .c0 { up.pin .c0 with openLimit := true }).pin .c0).openLimit = true ∧
    ((up.setThr .c0 { up.thr.c0 with held := .close }).held .c0).shut = true ∧
    movement 2000 (.seek 2000) none = none := by decide

/-- A HELD run whose RELEASE the line takes, and one that owes it (State.Released). -/
theorem witness_released :
    let s := withClaim (withDrive (coastingTo .done)) heldClaim
    (s.claim .c0).state = .held ∧ s.isolated = false ∧ s.lin.conflict = false ∧
    s.lin.queue.get (.claim .c0) = .reset ∧ s.lin.queue.get (.release .c0) = .reset ∧
    { s with lin := { s.lin with stuck := true } }.isolated = true := by decide

/-- A channel at rest after its coast, and the three ways in which no run begins at once (State.NoRunAtOnce). -/
theorem witness_rests :
    (withDrive { coastingTo .done with standing := none }).Rests .c0 ∧ node.NoRunAtOnce .c0 ∧
    (withDrive { coastingTo .supply with standing := none }).supply.status = .good :=
  ⟨⟨rfl, trivial⟩, .inr (.inl (by decide)), rfl⟩

/-- The homings from UNKNOWN of LimitsEndDrives: with a CLOSE, with an OPEN, and for the SERVICE entry alone. -/
theorem witness_unknown_homings :
    let at' := fun (t : ReqTable) (o : Origin) (ch : Channel) => { withDrive ch with
      req := { Req.reset with table := { c0 := t, c1 := .reset }, effective := { c0 := some o, c1 := none } } }
    let e : Entry := ⟨.close, .user, 0, none⟩
    let x := at' { ReqTable.reset with panel := some e } .panel
      { homing with known := false, standing := some ⟨.panel, .close, .user, false⟩ }
    let y := at' { ReqTable.reset with panel := some { e with action := .openTo 50 } } .panel
      { homing with
        known := false, job := some (.homeThenSeek 1500), part := some .homePart
        standing := some ⟨.panel, .openTo 50, .user, false⟩ }
    let z := at' { ReqTable.reset with service := some { e with cls := .service } } .service
      { homing with known := false, standing := some ⟨.service, .close, .service, false⟩ }
    x.effectiveEntry .c0 = some (.panel, e) ∧ (x.table .c0).service = none ∧
    (x.chan .c0).runState.drivingJob = true ∧ (x.chan .c0).direction = .closing ∧
    y.effectiveEntry .c0 = some (.panel, { e with action := .openTo 50 }) ∧
    (y.setting .c0).coast + 4 < min 50 100 * (y.setting .c0).travel / 100 ∧
    min 0 100 * (y.setting .c0).travel / 100 ≤ (y.setting .c0).coast + 4 ∧
    (z.table .c0).service.isSome = true ∧ z.req.effective.get .c0 = some .service := by decide

/-- The LOCAL slot of RetriesReturnToIdle: granted at once, and between two channels that wait. -/
theorem witness_local_grant :
    let idle : Channel := { seeking with runState := .idle, job := none, stall := none }
    let s := { withDrive idle with config := { node.config with segment := 0 } }
    let w := { s with dch := { c0 := waitingSlot, c1 := waitingSlot }
                      config := { s.config with ch1Present := true } }
    s.phase = .running ∧ s.isolated = true ∧ s.holdsNone .c1 = true ∧
    (s.chan .c1).runState ≠ .waitSlot ∧ s.energised .c1 = false ∧ (s.pin .c0).edge = false ∧
    w.present .c0 = true ∧ w.present .c1 = true ∧ (w.claim .c0).state = .none ∧
    (w.claim .c1).state = .none ∧ (w.claim .c0).vals.cls.rank = (w.claim .c1).vals.cls.rank := by decide

/-- What an entry into isolated operation takes off the queue (State.OwesQueue), and a claim whose values have
changed when its window ends (ClaimsAreDecided). -/
theorem witness_owes :
    let f : TxFrame := ⟨true, 0, 0, some (.release { fieldsR with token := 6 })⟩
    let q := TxQueue.reset.put (.release .c0) { frame := some f, successor := none }
    let s := { withClaim node { ClaimRecord.reset with heard := [6] } with
      lin := { node.lin with queue := q, stuckTimer := some 100000 } }
    s.dueAt s.lin.stuckTimer = true ∧ s.isolated = false ∧ s.driveActive = true ∧
    (s.lin.queue.get (.release .c0)).successor = none ∧ (s.lin.queue.get (.claim .c0)).frame = none ∧
    (f.content.bind Content.release?).map ReleaseFields.token = some 6 ∧ 6 ∈ (s.claim .c0).heard ∧
    fieldsR.outcome.toNat = ReleaseOutcome.code .yielded ∧
    { claiming with current := some ⟨.weather, 5⟩ }.announcedVals ≠ some ⟨.weather, 5⟩ := by decide

/-- A CLAIM whose RELEASE waits when it collides (LineIsSent). -/
theorem witness_cancelled_pair :
    let f : TxFrame := ⟨true, 3, 0, some (.claim { fieldsC with token := 7 })⟩
    let g : TxFrame := ⟨true, 0, 1, some (.release { fieldsR with token := 7 })⟩
    let a := attempts (.claim .c0) f
    let s := { a with lin := a.lin.put (.release .c0) { frame := some g, successor := none } }
    s.lin.attempt = some (.claim .c0) ∧ (s.lin.queue.get (.claim .c0)).frame = some f ∧
    claimTag f.content = some (7, false) ∧ releaseToken g.content = some 7 ∧
    (after .collision s).lin.queue.claim.c0.frame = none ∧
    (after .collision s).lin.queue.release.c0.frame = none := by decide

/-- A request that waits behind a frame: what it becomes at a collision, at a completion and behind a RELEASE
(LineIsSent; R154). -/
theorem witness_successors :
    let f : TxFrame := ⟨false, 3, 0, some (.order 1 fieldsO)⟩
    let r : TxRequest := ⟨true, some (.order 2 fieldsO)⟩
    let g : TxFrame := ⟨true, 3, 0, some (.release { fieldsR with token := 6 })⟩
    let n : TxRequest := ⟨true, some (.release { fieldsR with token := 7 })⟩
    let k : TxFrame := ⟨true, 0, 1, some (.claim { fieldsC with token := 7 })⟩
    let behind := fun (p : Place) (f : TxFrame) (r : TxRequest) => { attempts p f with
      lin := (attempts p f).lin.put p { frame := some f, successor := some r } }
    let a := behind .order f r
    let b := behind (.release .c0) g n
    let c := { b with lin := b.lin.put (.claim .c0) { frame := some k, successor := none } }
    a.lin.attempt = some .order ∧ (a.lin.queue.get .order).frame = some f ∧
    (a.lin.queue.get .order).successor = some r ∧ f.attempts + 1 < 16 ∧ a.lin.giveUp = false ∧
    (after .collision a).lin.queue.order = { frame := some ⟨true, 4, 0, r.content⟩, successor := none } ∧
    (after .attemptComplete a).lin.queue.order.frame = some ⟨true, 0, 0, r.content⟩ ∧
    (b.lin.queue.get (.release .c0)).successor = some n ∧ releaseToken n.content = some 7 ∧
    (after .collision b).lin.queue.release.c0.successor = some n ∧
    (after .attemptComplete b).lin.queue.release.c0.frame = some ⟨true, 0, 0, n.content⟩ ∧
    claimTag k.content = some (7, false) ∧ (c.lin.queue.get (.claim .c0)).successor = none ∧
    (after .attemptComplete c).lin.queue.release.c0 = .reset ∧
    (after .attemptComplete c).lin.queue.claim.c0 = .reset := by decide

theorem witness_LineIsReceived : State.reset.phase = .held ∧ node.phase ≠ .held ∧
    node.lin.stuck = false ∧ node.dueAt node.lin.stuckTimer = false ∧ node.isolated = false ∧
    node.driveActive = true ∧ node.dueAt { node.lin with stuckTimer := some 100000 }.stuckTimer = true ∧
    (let stuck := { node with lin := { node.lin with stuck := true } }
     stuck.lin.stuck = true ∧ stuck.lin.giveUp = false ∧ stuck.lin.conflict = false ∧
      stuck.config.segment ≠ 0 ∧ stuck.straps.address.isStation = true ∧
      (∀ c ∈ [Chan.c0, .c1], stuck.lin.queue.get (.claim c) = .reset ∧
        stuck.lin.queue.get (.release c) = .reset) ∧ stuck.present .c0 = true ∧
      { heldClaim with state := .localRun, owedRelease := some (6, .done) }.owedRelease = some (6, .done) ∧
      { heldClaim with owedRenewal := true }.owedRenewal = true ∧
      ((withDrive waitingSlot).chan .c0).runState = .waitSlot ∧ stuck.phase = .running) := by decide

/-- A line state that changes at a quiet, a stuck line, a give-up and a completion, and one that does not
(LineIsReceived, LineIsSent; R160, R175). -/
theorem witness_line_state_reports :
    let f : TxFrame := ⟨true, 15, 0, some (.claim fieldsC)⟩
    let given := fun s : State => { s with lin := { s.lin with giveUp := true } }
    let stuck := { node with lin := { node.lin with stuck := true } }
    let held := { given stuck with lin := { (given stuck).lin with stuckTimer := some 100000 } }
    let done := after .attemptComplete (given (attempts .report { f with urgent := false }))
    stuck.lin.giveUp = false ∧ (after .lineQuiet stuck).lin.queue.report.frame.isSome = true ∧
    (given stuck).lin.giveUp = true ∧ (after .lineQuiet (given stuck)).lin.queue = .reset ∧
    held.lineIsolated = true ∧ (after .stuckTimerExpiry held).lin.queue = .reset ∧
    (attempts (.claim .c0) f).lineIsolated = false ∧
    (after .collision (attempts (.claim .c0) f)).lin.queue.report.frame.isSome = true ∧
    (given (attempts .order f)).lin.stuck = false ∧ (given (attempts .order f)).lin.conflict = false ∧
    (after .attemptComplete (given (attempts .order f))).lin.queue.report.frame.isSome = true ∧
    done.loaded = true ∧ done.lin.queue.report = { frame := some ⟨false, 0, 0, none⟩, successor := none } := by
  decide

theorem witness_LineIsSent :
    let f : TxFrame := ⟨true, 15, 0, some (.claim fieldsC)⟩
    let own : ClaimFields := { fieldsC with token := 7 }
    let s := withClaim (attempts (.claim .c0) { f with content := some (.claim own) })
      { claiming with completion := none, window := none }
    (sends (.claim .c0) f).lin.head = some (.claim .c0, f) ∧ (sends .report f).lin.round = true ∧
    (sends .report f).lin.stuck = false ∧ (sends .report f).lin.conflict = false ∧
    (5 + 15) % 8 = 4 ∧ (sends .weather ⟨false, 0, 0, none⟩).lin.head = some (.weather, ⟨false, 0, 0, none⟩) ∧
    8 + (5 + 0) % 16 = 13 ∧
    (attempts .report f).lin.attempt = some .report ∧
    ((attempts .report f).lin.queue.get .report).frame = some f ∧ 16 ≤ f.attempts + 1 ∧
    { f with attempts := 14 }.attempts + 1 < 16 ∧ node.lin.attempt = none ∧
    s.lin.attempt = some (.claim .c0) ∧ (s.claim .c0).state = .claiming ∧
    (s.claim .c0).token = own.token.toNat ∧ own.renew = 0 ∧ own.channel.toNat = chanNat .c0 ∧
    own.cls.toNat ≤ 4 ∧ s.lin.giveUp = false ∧ s.driveActive = true ∧ s.config.segment ≠ 0 ∧
    (let g : TxFrame := ⟨true, 0, 0, some (.release { fieldsR with token := 7 })⟩
     let r := attempts (.release .c0) g
     r.lin.attempt = some (.release .c0) ∧ (r.lin.queue.get (.release .c0)).frame = some g ∧
      (r.lin.queue.get (.release .c0)).successor = none ∧ r.driveActive = true ∧
      r.config.segment ≠ 0 ∧ r.lin.giveUp = false) ∧
    (let w := { mast with
        wxi := { mast.wxi with pub := .sending, deferred := some (true, .gustLevel) }
        lin := (attempts .weather { f with content := some (.weather fieldsW) }).lin }
     w.publishes = true ∧ w.lin.attempt = some .weather ∧ w.lin.conflict = false ∧
      w.wxi.deferred = some (true, .gustLevel) ∧ mast.wxi.deferred = none) := by decide

theorem witness_ConflictsSilenceTheNode : node.phase ≠ .held ∧
    node.straps.address.isStation = true ∧ node.lin.conflict = false ∧ State.reset.phase = .held ∧
    node.isolated = false ∧ node.driveActive = true ∧
    commandSource (.orderStop 5 fieldsO) = some node.straps.address ∧
    commandSource (.configCommit 5 9 0) = some node.straps.address := by decide

/-- The STATE place at a request (State.ReportAsked; R152): empty, its frame not on the line, and its frame on the
line, with a request behind it and without. -/
theorem witness_report_asked :
    let f : TxFrame := ⟨false, 3, 7, some (.report node.stateFields)⟩
    let due := fun s : State => { s with rep := { s.rep with interval := some 100000 } }
    let place := fun s : State => (after .statusIntervalExpiry (due s)).lin.queue.report
    let follows := { attempts .report f with
      lin := (attempts .report f).lin.put .report { frame := some f, successor := some ⟨true, none⟩ } }
    node.loaded = true ∧ node.lin.conflict = false ∧ (due node).dueAt (due node).rep.interval = true ∧
    place node = { frame := some ⟨false, 0, 0, none⟩, successor := none } ∧
    (sends .report f).lin.attempt = none ∧
    place (sends .report f) = { frame := some ⟨false, 3, 7, none⟩, successor := none } ∧
    (attempts .report f).lin.attempt = some .report ∧
    place (attempts .report f) = { frame := some f, successor := some ⟨false, none⟩ } ∧
    place follows = { frame := some f, successor := some ⟨true, none⟩ } := by decide

/-- Each change that calls for a STATE frame (State.ReportDue; R175), by a command that makes it. -/
theorem witness_report_due :
    let ended := after (.coastEnd .c0) (withDrive { coastingTo .done with standing := none })
    let failed := after (.coastEnd .c0) (withDrive (coastingTo (.fault .pinch)))
    let fresh := { mast with src := { mast.src with picture := { mast.src.picture with status := .lost } } }
    let heard := after (.weatherFrame 9 ⟨0, 0, 6, 0, 100, 100, 5, 0⟩) { fresh with
      src := { fresh.src with entries := [⟨9, .first, .absent, .reset, none, none⟩] } }
    let stuck := after .stuckTimerExpiry { node with lin := { node.lin with stuckTimer := some 100000 } }
    (ended.chan .c0).runState = .idle ∧ (failed.chan .c0).runState = .blocked ∧
    (after (.releaseHoldExpiry .c0) latched).held .c0 ≠ latched.held .c0 ∧
    heard.src.picture.status = .valid ∧ stuck.lineIsolated = true ∧ node.lineIsolated = false ∧
    (after (.keySwitchChange true) node).pins.keyLocal = true ∧
    (after (.storeWriteEnd (List.replicate 96 1)) writing).rep.outcome ≠ writing.rep.outcome := by decide

theorem witness_ReportingAndCommissioning : node.dueAt node.rep.interval = false ∧
    node.dueAt { node.rep with interval := some 100000 }.interval = true ∧ node.loaded = true ∧
    State.reset.loaded = false ∧ node.config.outSource = .fault ∧
    (List.replicate 16 (0 : Byte)).length = 16 ∧ node.commitState = .idle ∧
    writing.commitState = .writing ∧ writing.straps.commissioning = true ∧
    (5#8).toNat = writing.straps.address.toNat ∧ (80#8).toNat % 16 = 0 ∧ (80#8).toNat ≤ 80 := by decide

theorem witness_commit_passes : crc16 (stored.store.take 94) = crc16 blank ∧
    (crc16 blank).toNat = halfAt stored.store 94 :=
  ⟨rfl, (half_at_end (crc16 blank)).symm⟩

end Sys2Proof.Tests
end

section
/-! The threat computation (03_threat_levels.md R41 to R45): the effective gust and the wind level, the driven-rain
figure and the rain level, and the raw level where only one of the two quantities speaks. -/

namespace Sys2Proof.Machine

open Sys2Proof

/-! ### CALM under `Level.higher` -/

@[simp] theorem Level.higher_calm (a : Level) : a.higher .calm = a := by cases a <;> rfl

@[simp] theorem Level.calm_higher (a : Level) : Level.calm.higher a = a := by cases a <;> rfl

/-! ### The effective gust and the wind level (R41) -/

theorem effectiveGust_le (g w : Nat) : effectiveGust g w ≤ 999 := Nat.min_le_left ..

/-- The weight 16 is 1×. -/
theorem effectiveGust_weight_16 {g : Nat} (hg : g ≤ 999) : effectiveGust g 16 = g := by
  rw [effectiveGust, Nat.mul_div_cancel g (by decide), Nat.min_eq_right hg]

section WindLevel

variable {cfg : Settings} {e : Nat}

theorem windLevel_severe (h : cfg.gSevere ≤ e) : windLevel cfg e = .severe := if_pos h

theorem windLevel_close (hs : e < cfg.gSevere) (h : cfg.gClose ≤ e) : windLevel cfg e = .close := by
  rw [windLevel, if_neg hs.not_ge, if_pos h]

theorem windLevel_watch (hs : e < cfg.gSevere) (hc : e < cfg.gClose) (h : cfg.gWatch ≤ e) :
    windLevel cfg e = .watch := by
  rw [windLevel, if_neg hs.not_ge, if_neg hc.not_ge, if_pos h]

theorem windLevel_calm (hs : e < cfg.gSevere) (hc : e < cfg.gClose) (hw : e < cfg.gWatch) :
    windLevel cfg e = .calm := by
  rw [windLevel, if_neg hs.not_ge, if_neg hc.not_ge, if_neg hw.not_ge]

end WindLevel

/-! ### The driven-rain figure (R42) -/

theorem cosineWeight_le (d : Nat) : cosineWeight d ≤ 64 := by
  unfold cosineWeight
  split <;> decide

/-- Adding 16 before the face normal is taken off gives R42's (D − N) mod 16 in the natural numbers. -/
theorem sectors_from_normal {n : Nat} (d : Nat) (hn : n < 16) :
    (d + 16 - n) % 16 = (((d : Int) - n) % 16).toNat := by
  omega

theorem drivenRain_eq {n : Nat} (m d : Nat) (hn : n < 16) :
    drivenRain m d n = m * (if d < 16 then cosineWeight (((d : Int) - n) % 16).toNat else 64) / 64 := by
  rw [drivenRain, sectors_from_normal d hn]

/-- No face catches more than the mean wind, since no cosine weight exceeds 64. -/
theorem drivenRain_le_mean (m d n : Nat) : drivenRain m d n ≤ m := by
  have hc : (if d < 16 then cosineWeight ((d + 16 - n) % 16) else 64) ≤ 64 := by
    split
    · exact cosineWeight_le _
    · exact Nat.le_refl 64
  exact Nat.div_le_of_le_mul (Nat.mul_comm 64 m ▸ Nat.mul_le_mul_left m hc)

/-! ### The rain level (R43) -/

section ChannelLevel

variable {cfg : Settings} {set : ChanSettings} {p : Picture}

theorem rainLevel_dry (h : p.rain = .dry) : rainLevel cfg set p = .calm := by
  simp only [rainLevel, h]

theorem rainLevel_wet (h : p.rain = .wet) : rainLevel cfg set p = .watch := by
  simp only [rainLevel, h]

theorem rainLevel_skylight (h : p.rain = .rain) (hk : set.kind = .skylight) :
    rainLevel cfg set p = if p.heavy then .severe else .close := by
  simp only [rainLevel, h, hk]

theorem rainLevel_window (h : p.rain = .rain) (hk : set.kind = .window) :
    rainLevel cfg set p =
      if cfg.drClose ≤ drivenRain p.mean p.direction set.faceNormal then .close else .watch := by
  simp only [rainLevel, h, hk]

/-! ### The raw level where one quantity is calm (R44, R45) -/

theorem rawLevel_dry (hs : p.rainSource ≠ .lost) (hr : p.rain = .dry) :
    rawLevel cfg set p =
      if p.windSource = .lost then cfg.failSafe else windLevel cfg (effectiveGust p.gust set.weight) := by
  rw [rawLevel, if_neg hs, rainLevel_dry hr, Level.higher_calm]

theorem rawLevel_calm_wind (hs : p.windSource ≠ .lost)
    (hw : windLevel cfg (effectiveGust p.gust set.weight) = .calm) :
    rawLevel cfg set p = if p.rainSource = .lost then cfg.failSafe else rainLevel cfg set p := by
  rw [rawLevel, if_neg hs, hw, Level.calm_higher]

end ChannelLevel

/-! ### The statements -/

/-- Settles O33: R41's rows in order, and the raw level of a channel with no rain to raise it. -/
theorem windLevelOfAGust : Obligations.WindLevelOfAGust := by
  intro cfg g w
  refine ⟨rfl, effectiveGust_le g w, ?_, windLevel_severe, windLevel_close, windLevel_watch, windLevel_calm, ?_⟩
  · rintro hg rfl
    exact effectiveGust_weight_16 hg
  · rintro set p hs hr rfl rfl
    exact rawLevel_dry hs hr

/-- Settles O34: the cosine table is read sector by sector, the rain level by state and kind. -/
theorem rainLevelOfAPicture : Obligations.RainLevelOfAPicture := by
  refine ⟨fun m d n hn => ⟨?_, (drivenRain_le_mean m d n).trans⟩, fun cfg set p =>
    ⟨rainLevel_dry, rainLevel_wet, rainLevel_skylight, fun hr hk => ?_, rawLevel_calm_wind⟩⟩
  · have hsector : (((d : Int) - n) % 16).toNat < 16 := by omega
    rw [drivenRain_eq m d hn]
    generalize (((d : Int) - n) % 16).toNat = sector at hsector
    interval_cases sector <;> rfl
  · rw [rainLevel_window hr hk]
    exact ⟨fun h => if_pos h, fun h => if_neg h⟩

end Sys2Proof.Machine
end

section
/-! The CRC (09_frames.md R167): the shift of its register is injective, and eight shifts carry a register of a low
byte alone to its high byte; so two bytes that are taken in leave the register 0000h only where they are its own. -/

namespace Sys2Proof.Machine

open Sys2Proof

/-! ### One shift of the register -/

theorem crcShift_of_msb_false {r : Half} (h : r.msb = false) : crcShift r = r <<< 1 := by
  simp [crcShift, h]

/-- What is shifted out stands in bit 0, because 1021h is odd. -/
theorem crcShift_bit_zero (r : Half) : (crcShift r).getLsbD 0 = r.msb := by
  cases h : r.msb <;> simp [crcShift, h]

theorem shiftLeft_one_bit_succ (r : Half) {k : Nat} (hk : k < 15) :
    (r <<< 1).getLsbD (k + 1) = r.getLsbD k := by
  rw [BitVec.getLsbD_shiftLeft]
  simp; omega

/-- A register is its high bit and its shift. -/
theorem eq_of_shiftLeft_one_eq {a b : Half} (hmsb : a.msb = b.msb) (h : a <<< 1 = b <<< 1) : a = b := by
  refine BitVec.eq_of_getLsbD_eq fun k hk => ?_
  rcases Nat.lt_or_ge k 15 with hlow | htop
  · rw [← shiftLeft_one_bit_succ a hlow, h, shiftLeft_one_bit_succ b hlow]
  · obtain rfl : k = 15 := by omega
    simpa [BitVec.msb_eq_getLsbD_last] using hmsb

theorem crcShift_injective : Function.Injective crcShift := by
  intro a b h
  have hmsb : a.msb = b.msb := by rw [← crcShift_bit_zero a, h, crcShift_bit_zero b]
  refine eq_of_shiftLeft_one_eq hmsb ?_
  cases hb : b.msb <;> simpa [crcShift, hmsb, hb] using h

/-! ### Eight shifts and one byte -/

theorem repeat_eq_iterate {α : Type} (f : α → α) (n : Nat) (a : α) : Nat.repeat f n a = f^[n] a := by
  induction n with
  | zero => rfl
  | succ n ih => rw [Function.iterate_succ_apply', ← ih]; rfl

theorem crcByte_eq_iterate (r : Half) (b : Byte) :
    crcByte r b = crcShift^[8] (r ^^^ (b.zeroExtend 16 <<< 8)) :=
  repeat_eq_iterate crcShift 8 _

/-- Up to eight shifts of a low byte alone shift out no 1. -/
theorem crcShift_iterate_low (b : Byte) {n : Nat} (hn : n ≤ 8) :
    crcShift^[n] (b.zeroExtend 16) = b.zeroExtend 16 <<< n := by
  induction n with
  | zero => simp
  | succ n ih =>
    have hmsb : (b.zeroExtend 16 <<< n).msb = false := by
      have hbit : b.getLsbD (15 - n) = false := b.getLsbD_of_ge _ (by omega)
      simp [BitVec.msb_eq_getLsbD_last, hbit]
    rw [Function.iterate_succ_apply', ih (by omega), crcShift_of_msb_false hmsb, ← BitVec.shiftLeft_add]

theorem crcShift_iterate_eq_zero (r : Half) : crcShift^[8] r = 0#16 ↔ r = 0#16 :=
  (crcShift_injective.iterate 8).eq_iff' rfl

/-! ### The two bytes of the register -/

theorem hiByte_bit (r : Half) {k : Nat} (hk : k < 8) : (hiByte r).getLsbD k = r.getLsbD (8 + k) := by
  simp [hiByte, hk]

theorem loByte_bit (r : Half) {k : Nat} (hk : k < 8) : (loByte r).getLsbD k = r.getLsbD k := by
  simp [loByte, hk]

theorem half_eq_iff (a b : Half) : a = b ↔ hiByte a = hiByte b ∧ loByte a = loByte b := by
  refine ⟨by rintro rfl; exact ⟨rfl, rfl⟩, fun ⟨hhi, hlo⟩ => BitVec.eq_of_getLsbD_eq fun k hk => ?_⟩
  rcases Nat.lt_or_ge k 8 with hk8 | hk8
  · rw [← loByte_bit a hk8, hlo, loByte_bit b hk8]
  · obtain ⟨j, rfl⟩ := Nat.exists_eq_add_of_le hk8
    rw [← hiByte_bit a (by omega), hhi, hiByte_bit b (by omega)]

theorem hiByte_zeroExtend (y : Byte) : hiByte (y.zeroExtend 16) = 0#8 := by
  refine BitVec.eq_of_getLsbD_eq fun k hk => ?_
  rw [hiByte_bit _ hk]
  simp

theorem loByte_zeroExtend (y : Byte) : loByte (y.zeroExtend 16) = y := by
  refine BitVec.eq_of_getLsbD_eq fun k hk => ?_
  rw [loByte_bit _ hk]
  simp [Nat.lt_of_lt_of_le hk]

theorem hiByte_combined (r : Half) (x : Byte) :
    hiByte (r ^^^ (x.zeroExtend 16 <<< 8)) = hiByte r ^^^ x := by
  refine BitVec.eq_of_getLsbD_eq fun k hk => ?_
  have hhigh : 8 + k < 16 := by omega
  rw [BitVec.getLsbD_xor, hiByte_bit _ hk, hiByte_bit _ hk]
  simp [hhigh, Nat.lt_of_lt_of_le hk]

theorem loByte_combined (r : Half) (x : Byte) : loByte (r ^^^ (x.zeroExtend 16 <<< 8)) = loByte r := by
  refine BitVec.eq_of_getLsbD_eq fun k hk => ?_
  rw [loByte_bit _ hk, loByte_bit _ hk]
  simp [hk]

/-- A byte combined into the high half leaves a low byte alone exactly when it is the high byte. -/
theorem combined_eq_zeroExtend_iff (r : Half) (x y : Byte) :
    r ^^^ (x.zeroExtend 16 <<< 8) = y.zeroExtend 16 ↔ x = hiByte r ∧ y = loByte r := by
  rw [half_eq_iff, hiByte_combined, loByte_combined, hiByte_zeroExtend, loByte_zeroExtend,
    BitVec.xor_eq_zero_iff, eq_comm, eq_comm (a := loByte r)]

/-! ### The residue -/

/-- The register after two bytes is 0000h exactly when they are the register before, high byte first. -/
theorem crcByte_crcByte_eq_zero_iff (r : Half) (x y : Byte) :
    crcByte (crcByte r x) y = 0#16 ↔ x = hiByte r ∧ y = loByte r := by
  calc crcByte (crcByte r x) y = 0#16
      ↔ crcByte r x ^^^ (y.zeroExtend 16 <<< 8) = 0#16 := by
        rw [crcByte_eq_iterate, crcShift_iterate_eq_zero]
    _ ↔ crcByte r x = y.zeroExtend 16 <<< 8 := BitVec.xor_eq_zero_iff
    _ ↔ crcShift^[8] (r ^^^ (x.zeroExtend 16 <<< 8)) = crcShift^[8] (y.zeroExtend 16) := by
        rw [crcByte_eq_iterate, crcShift_iterate_low y (Nat.le_refl 8)]
    _ ↔ r ^^^ (x.zeroExtend 16 <<< 8) = y.zeroExtend 16 := (crcShift_injective.iterate 8).eq_iff
    _ ↔ x = hiByte r ∧ y = loByte r := combined_eq_zeroExtend_iff r x y

/-! ### A run of bytes -/

theorem crc16_append (bytes more : List Byte) : crc16 (bytes ++ more) = more.foldl crcByte (crc16 bytes) :=
  List.foldl_append

theorem blockSound_iff (b : List Byte) :
    blockSound b = true ↔ b.length = 96 ∧ (crc16 (b.take 94)).toNat = halfAt b 94 := by
  simp [blockSound]

/-! ### The statement -/

/-- Settles O21: the residue is `crcByte_crcByte_eq_zero_iff` at the CRC of the bytes before. -/
theorem crcIsTheShiftRegister : Obligations.CrcIsTheShiftRegister := by
  refine ⟨⟨rfl, fun bytes b => ?_⟩, fun _ _ _ => rfl, fun bytes x y => ?_, blockSound_iff, by decide +kernel⟩
  · have hshift : crcShift =
        fun r : Half => if r.getLsbD 15 then (r <<< 1) ^^^ 0x1021#16 else r <<< 1 := by
      funext r
      rw [crcShift, BitVec.msb_eq_getLsbD_last]
    rw [crc16_append, ← hshift]
    exact crcByte_eq_iterate (crc16 bytes) b
  · rw [crc16_append]
    exact crcByte_crcByte_eq_zero_iff (crc16 bytes) x y

end Sys2Proof.Machine
end
